-- ==== Sys2Proof/Word.lean ====
section
/-! DEFINITION. The three widths of the spec (00_scope.md R13): u8, u16 and u32, all unsigned.
A register, a CRC, a frame byte and a command word are bits, so each is a bit vector; buffer addresses,
frame positions and lengths that are counted are `Nat`. -/

namespace Sys2Proof

/-- A byte, `u8` (R13). -/
abbrev Byte := BitVec 8

/-- A 16-bit value, `u16` (R13): SEQ, LEN, the CRCs and a response's `val`. -/
abbrev Half := BitVec 16

/-- A command word or event word, `u32` (R13, R71). -/
abbrev Word := BitVec 32

end Sys2Proof
end

