-- ==== Sys2Proof/Syntax.lean ====
section
/-! DEFINITION. What can be said to the block: the two ports, the five formats, the 29 inputs of
spec/opcode_table.json (30_encoding.md R70-R75), the opcode table as data, and the assembly line of R91. -/

namespace Sys2Proof

/-- The two input ports (R70). -/
inductive Port where
  /-- Host commands; one response per command. -/
  | host
  /-- Inputs of the RX line, the TX line and the window timer; no response. -/
  | event
deriving DecidableEq, Repr

/-- The five formats, named by the fields of the word they read (R72). -/
inductive Format where
  | N | B | H | A | AB
deriving DecidableEq, Repr

/-- Does the format read the field `A16 = w[23:8]` (R72)? -/
def Format.readsA16 : Format → Bool
  | .N | .B => false
  | .H | .A | .AB => true

/-- Does the format read the field `D8 = w[7:0]` (R72)? -/
def Format.readsD8 : Format → Bool
  | .N | .H | .A => false
  | .B | .AB => true

/-- One input the block gives a meaning to: one constructor per row of the opcode table (R74, R75).
Operands are the fields themselves, so a value outside its field cannot be written here; the range check of R91
is made on assembly lines (WellFormed.lean). -/
inductive Instr where
  | nop
  | reset
  | crcInit
  | crcByte (b : Byte)
  | crcRead
  | txbWr (a : Half) (b : Byte)
  | txbRd (a : Half)
  | txSetcmd (b : Byte)
  | txGetcmd
  | txSetseq (v : Half)
  | txGetseq
  | txSetlen (v : Half)
  | txGetlen
  | txStart
  | txStat
  | rxFlush
  | rxbRd (a : Half)
  | rxStat
  | rxGetcmd
  | rxGetseq
  | rxGetlen
  | rxGetcrc
  | rxGetcalc
  | xactStart
  | xactStat
  | xactCancel
  | evRxByte (b : Byte)
  | evTxTake
  | evWindowExpire
deriving DecidableEq, Repr

/-- One row of the opcode table (R74, R75). -/
structure OpRow where
  /-- `OP = w[31:24]`. -/
  op : Byte
  mnemonic : String
  format : Format
  port : Port
deriving DecidableEq, Repr

/-- The row's mask: "the match is on `OP` alone, so every row has `mask = 0xFF000000`" (R77). -/
def OpRow.mask (_ : OpRow) : Word := 0xFF000000#32

/-- The row's match value: the opcode over zeros. -/
def OpRow.pattern (r : OpRow) : Word := r.op.setWidth 32 <<< 24

/-- The control and CRC opcodes of R74. -/
def opcodeTableControl : List OpRow :=
  [⟨0x00#8, "NOP", .N, .host⟩, ⟨0x01#8, "RESET", .N, .host⟩,
   ⟨0x10#8, "CRC_INIT", .N, .host⟩, ⟨0x11#8, "CRC_BYTE", .B, .host⟩, ⟨0x12#8, "CRC_READ", .N, .host⟩]

/-- The encoder opcodes of R74. -/
def opcodeTableTx : List OpRow :=
  [⟨0x20#8, "TXB_WR", .AB, .host⟩, ⟨0x21#8, "TXB_RD", .A, .host⟩,
   ⟨0x22#8, "TX_SETCMD", .B, .host⟩, ⟨0x23#8, "TX_GETCMD", .N, .host⟩,
   ⟨0x24#8, "TX_SETSEQ", .H, .host⟩, ⟨0x25#8, "TX_GETSEQ", .N, .host⟩,
   ⟨0x26#8, "TX_SETLEN", .H, .host⟩, ⟨0x27#8, "TX_GETLEN", .N, .host⟩,
   ⟨0x28#8, "TX_START", .N, .host⟩, ⟨0x29#8, "TX_STAT", .N, .host⟩]

/-- The decoder opcodes of R74. -/
def opcodeTableRx : List OpRow :=
  [⟨0x30#8, "RX_FLUSH", .N, .host⟩, ⟨0x31#8, "RXB_RD", .A, .host⟩, ⟨0x32#8, "RX_STAT", .N, .host⟩,
   ⟨0x33#8, "RX_GETCMD", .N, .host⟩, ⟨0x34#8, "RX_GETSEQ", .N, .host⟩, ⟨0x35#8, "RX_GETLEN", .N, .host⟩,
   ⟨0x36#8, "RX_GETCRC", .N, .host⟩, ⟨0x37#8, "RX_GETCALC", .N, .host⟩]

/-- The transaction opcodes of R74 and the event opcodes of R75. -/
def opcodeTableXactEvent : List OpRow :=
  [⟨0x40#8, "XACT_START", .N, .host⟩, ⟨0x41#8, "XACT_STAT", .N, .host⟩, ⟨0x42#8, "XACT_CANCEL", .N, .host⟩,
   ⟨0xF0#8, "EV_RX_BYTE", .B, .event⟩, ⟨0xF1#8, "EV_TX_TAKE", .N, .event⟩,
   ⟨0xF2#8, "EV_WINDOW_EXPIRE", .N, .event⟩]

/-- The whole opcode table (R74, R75): 26 host opcodes and 3 event opcodes. -/
def opcodeTable : List OpRow :=
  opcodeTableControl ++ opcodeTableTx ++ opcodeTableRx ++ opcodeTableXactEvent

/-- One input as it stands on a port: a 32-bit word (R70, R71). -/
structure Input where
  port : Port
  word : Word
deriving DecidableEq, Repr

/-- One line of assembly (R91): an optional port prefix, a mnemonic, and its operands in the order written.
The operands are numbers as written, not yet checked against their fields. -/
structure AsmLine where
  portPrefix : Option Port
  mnemonic : String
  operands : List Nat
deriving DecidableEq, Repr

end Sys2Proof
end

