-- ==== Sys2Proof/WellFormed.lean ====
section
/-! DEFINITION. Which assembly lines have a word (30_encoding.md R91). An `Instr` needs no check of its own: its
operands have the width of their fields. An assembly line's operands are plain numbers, and "an operand outside
its field is an assembly error". Each check is a Bool of its own, so that a test can show the term it refuses. -/

namespace Sys2Proof

/-- The row of the opcode table a mnemonic names, if it names one. -/
def rowOf (mnemonic : String) : Option OpRow :=
  opcodeTable.find? fun r => r.mnemonic == mnemonic

/-- Check 1: the mnemonic is one of the table's (R74, R75). -/
def AsmLine.knownMnemonic (l : AsmLine) : Bool := (rowOf l.mnemonic).isSome

/-- Check 2: a port prefix, if written, is the port the mnemonic's table decides (R91). -/
def AsmLine.portAgrees (l : AsmLine) : Bool :=
  match rowOf l.mnemonic, l.portPrefix with
  | some r, some p => r.port == p
  | _, none => true
  | none, some _ => false

/-- Check 3: as many operands as the format writes: none, `b`, `v`, `a`, or `a, b` (R91). -/
def AsmLine.operandCount (l : AsmLine) : Bool :=
  match (rowOf l.mnemonic).map OpRow.format, l.operands with
  | some .N, [] => true
  | some .B, [_] => true
  | some .H, [_] => true
  | some .A, [_] => true
  | some .AB, [_, _] => true
  | _, _ => false

/-- Check 4: each operand fits its field, `b <= 0xFF` and `v, a <= 0xFFFF` (R91). -/
def AsmLine.operandsFit (l : AsmLine) : Bool :=
  match (rowOf l.mnemonic).map OpRow.format, l.operands with
  | some .B, [b] => b ≤ 0xFF
  | some .H, [v] => v ≤ 0xFFFF
  | some .A, [a] => a ≤ 0xFFFF
  | some .AB, [a, b] => a ≤ 0xFFFF && b ≤ 0xFF
  | _, _ => true

/-- A line the assembler accepts. -/
def AsmLine.wellFormed (l : AsmLine) : Bool :=
  l.knownMnemonic && l.portAgrees && l.operandCount && l.operandsFit

/-- An input is directed at the port that its instruction belongs to (R70: a word arriving on the wrong port is
handled by R78). -/
def Instr.fitsPort : Instr → Port → Bool
  | .evRxByte _, p | .evTxTake, p | .evWindowExpire, p => p == .event
  | .nop, p | .reset, p | .crcInit, p | .crcByte _, p | .crcRead, p
  | .txbWr _ _, p | .txbRd _, p | .txSetcmd _, p | .txGetcmd, p | .txSetseq _, p | .txGetseq, p
  | .txSetlen _, p | .txGetlen, p | .txStart, p | .txStat, p
  | .rxFlush, p | .rxbRd _, p | .rxStat, p | .rxGetcmd, p | .rxGetseq, p | .rxGetlen, p | .rxGetcrc, p
  | .rxGetcalc, p | .xactStart, p | .xactStat, p | .xactCancel, p => p == .host

end Sys2Proof
end

