-- ==== Sys2Proof/Decode.lean ====
section
/-! DEFINITION. From words to instructions and back (30_encoding.md R70-R79, R91, R92).
The decoder is total: a word that stands for nothing on its port gives `none`, which the step turns into `EOPC` on
the host port and into nothing on the event port (R78). The encoder and the assembler follow the same tables. -/

namespace Sys2Proof

/-- `OP = w[31:24]` (R71). -/
def opField (w : Word) : Byte := w.extractLsb' 24 8

/-- `A16 = w[23:8]`, the operand `v` or `a` (R71, R76). -/
def a16Field (w : Word) : Half := w.extractLsb' 8 16

/-- `D8 = w[7:0]`, the operand `b` (R71, R76). -/
def d8Field (w : Word) : Byte := w.extractLsb' 0 8

/-- The host port's opcodes, given the word's three fields (R74). Every `OP` not listed is undefined there, `0xF0`-`0xF2`
included (R78). -/
def decodeHostFields (op : Byte) (a16 : Half) (d8 : Byte) : Option Instr :=
  match op with
  | 0x00#8 => some .nop
  | 0x01#8 => some .reset
  | 0x10#8 => some .crcInit
  | 0x11#8 => some (.crcByte d8)
  | 0x12#8 => some .crcRead
  | 0x20#8 => some (.txbWr a16 d8)
  | 0x21#8 => some (.txbRd a16)
  | 0x22#8 => some (.txSetcmd d8)
  | 0x23#8 => some .txGetcmd
  | 0x24#8 => some (.txSetseq a16)
  | 0x25#8 => some .txGetseq
  | 0x26#8 => some (.txSetlen a16)
  | 0x27#8 => some .txGetlen
  | 0x28#8 => some .txStart
  | 0x29#8 => some .txStat
  | 0x30#8 => some .rxFlush
  | 0x31#8 => some (.rxbRd a16)
  | 0x32#8 => some .rxStat
  | 0x33#8 => some .rxGetcmd
  | 0x34#8 => some .rxGetseq
  | 0x35#8 => some .rxGetlen
  | 0x36#8 => some .rxGetcrc
  | 0x37#8 => some .rxGetcalc
  | 0x40#8 => some .xactStart
  | 0x41#8 => some .xactStat
  | 0x42#8 => some .xactCancel
  | _ => none

/-- The event port's opcodes, given the word's two fields that they read (R75). Every other `OP` is ignored there (R78). -/
def decodeEventFields (op : Byte) (d8 : Byte) : Option Instr :=
  match op with
  | 0xF0#8 => some (.evRxByte d8)
  | 0xF1#8 => some .evTxTake
  | 0xF2#8 => some .evWindowExpire
  | _ => none

/-- The host port's decoder (R74, R76). -/
def decodeHost (w : Word) : Option Instr := decodeHostFields (opField w) (a16Field w) (d8Field w)

/-- The event port's decoder (R75, R76). -/
def decodeEvent (w : Word) : Option Instr := decodeEventFields (opField w) (d8Field w)

/-- What a word stands for on a port (R70, R78). -/
def decode (p : Port) (w : Word) : Option Instr :=
  match p with
  | .host => decodeHost w
  | .event => decodeEvent w

/-- What a word stands for in the opcode space the two ports share (R70). -/
def decodeWord (w : Word) : Option Instr :=
  match decodeHost w with
  | some i => some i
  | none => decodeEvent w

/-- The instruction the decoder reads from a table word. The table numbers bit 0 as the least significant bit of
the word, which is R13's and R71's numbering, and a word is a value on a port, not a byte sequence (R59). -/
def decodeTableWord (nbits w : Nat) : Option Instr :=
  decodeWord (BitVec.ofNat 32 (w % 2 ^ nbits))

/-- The port an instruction belongs to (R74, R75). -/
def Instr.port : Instr → Port
  | .evRxByte _ | .evTxTake | .evWindowExpire => .event
  | .nop | .reset | .crcInit | .crcByte _ | .crcRead
  | .txbWr _ _ | .txbRd _ | .txSetcmd _ | .txGetcmd | .txSetseq _ | .txGetseq
  | .txSetlen _ | .txGetlen | .txStart | .txStat
  | .rxFlush | .rxbRd _ | .rxStat | .rxGetcmd | .rxGetseq | .rxGetlen | .rxGetcrc | .rxGetcalc
  | .xactStart | .xactStat | .xactCancel => .host

/-- The port on which a word arrives when an agent that means it sends it: the event port for the three event
opcodes, the host port for every other word. -/
def portOf (w : Word) : Port :=
  match decodeEvent w with
  | some _ => .event
  | none => .host

/-- The opcode of an instruction (R74, R75). -/
def Instr.op : Instr → Byte
  | .nop => 0x00#8
  | .reset => 0x01#8
  | .crcInit => 0x10#8
  | .crcByte _ => 0x11#8
  | .crcRead => 0x12#8
  | .txbWr _ _ => 0x20#8
  | .txbRd _ => 0x21#8
  | .txSetcmd _ => 0x22#8
  | .txGetcmd => 0x23#8
  | .txSetseq _ => 0x24#8
  | .txGetseq => 0x25#8
  | .txSetlen _ => 0x26#8
  | .txGetlen => 0x27#8
  | .txStart => 0x28#8
  | .txStat => 0x29#8
  | .rxFlush => 0x30#8
  | .rxbRd _ => 0x31#8
  | .rxStat => 0x32#8
  | .rxGetcmd => 0x33#8
  | .rxGetseq => 0x34#8
  | .rxGetlen => 0x35#8
  | .rxGetcrc => 0x36#8
  | .rxGetcalc => 0x37#8
  | .xactStart => 0x40#8
  | .xactStat => 0x41#8
  | .xactCancel => 0x42#8
  | .evRxByte _ => 0xF0#8
  | .evTxTake => 0xF1#8
  | .evWindowExpire => 0xF2#8

/-- The `A16` field of an instruction's word; zero where its format does not read the field. -/
def Instr.a16 : Instr → Half
  | .txbWr a _ => a
  | .txbRd a => a
  | .txSetseq v => v
  | .txSetlen v => v
  | .rxbRd a => a
  | .nop | .reset | .crcInit | .crcByte _ | .crcRead | .txSetcmd _ | .txGetcmd | .txGetseq | .txGetlen
  | .txStart | .txStat | .rxFlush | .rxStat | .rxGetcmd | .rxGetseq | .rxGetlen | .rxGetcrc | .rxGetcalc
  | .xactStart | .xactStat | .xactCancel | .evRxByte _ | .evTxTake | .evWindowExpire => 0#16

/-- The `D8` field of an instruction's word; zero where its format does not read the field. -/
def Instr.d8 : Instr → Byte
  | .crcByte b => b
  | .txbWr _ b => b
  | .txSetcmd b => b
  | .evRxByte b => b
  | .nop | .reset | .crcInit | .crcRead | .txbRd _ | .txGetcmd | .txSetseq _ | .txGetseq | .txSetlen _
  | .txGetlen | .txStart | .txStat | .rxFlush | .rxbRd _ | .rxStat | .rxGetcmd | .rxGetseq | .rxGetlen
  | .rxGetcrc | .rxGetcalc | .xactStart | .xactStat | .xactCancel | .evTxTake | .evWindowExpire => 0#8

/-- A word from its three fields: `w = (OP << 24) | (A16 << 8) | D8` (R91). -/
def packWord (op : Byte) (a16 : Half) (d8 : Byte) : Word :=
  op.setWidth 32 <<< 24 ||| a16.setWidth 32 <<< 8 ||| d8.setWidth 32

/-- The word of an instruction, with zeros in the fields its format does not read. -/
def encode (i : Instr) : Word := packWord i.op i.a16 i.d8

/-- The input that carries an instruction to the port it belongs to. -/
def Instr.toInput (i : Instr) : Input := ⟨i.port, encode i⟩

/-- The two fields an assembly line's operands fill (R72, R91): `a` or `v` goes to `A16`, `b` to `D8`. -/
def AsmLine.fields (f : Format) (operands : List Nat) : Nat × Nat :=
  match f, operands with
  | .B, [b] => (0, b)
  | .H, [v] => (v, 0)
  | .A, [a] => (a, 0)
  | .AB, [a, b] => (a, b)
  | _, _ => (0, 0)

/-- The assembler (R91): a well-formed line gives one word on the port its mnemonic's table decides; any other
line is an assembly error. -/
def assemble (l : AsmLine) : Option Input :=
  match rowOf l.mnemonic with
  | none => none
  | some r =>
    if l.wellFormed then
      let f := AsmLine.fields r.format l.operands
      some ⟨r.port, packWord r.op (BitVec.ofNat 16 f.1) (BitVec.ofNat 8 f.2)⟩
    else none

/-- Pseudo-instruction `TXB_FILL a, "bytes"`: one `TXB_WR` per byte, at `a`, `a+1`, ... (R91). -/
def txbFill (a : Nat) : List Byte → List AsmLine
  | [] => []
  | c :: cs => ⟨none, "TXB_WR", [a, c.toNat]⟩ :: txbFill (a + 1) cs

/-- Pseudo-instruction `CRC_BYTES "bytes"`: one `CRC_BYTE` per byte (R91). -/
def crcBytes (s : List Byte) : List AsmLine := s.map fun c => ⟨none, "CRC_BYTE", [c.toNat]⟩

/-- Pseudo-instruction `EV_RX_BYTES "hex pairs"`: one `EV_RX_BYTE` per byte (R91). -/
def evRxBytes (s : List Byte) : List AsmLine := s.map fun c => ⟨none, "EV_RX_BYTE", [c.toNat]⟩

end Sys2Proof
end

