-- ==== Sys2Proof/Config.lean ====
section
/-! DEFINITION. What one realisation of the block fixes and the spec leaves open: the three parameters of
00_scope.md R9-R11, which 10_state.md R41 calls "Configuration, not state". `maxLen` and `bufInit` rest on
constants WITHOUT a body, so no proof can know their values; a statement proved about them holds for every
choice the spec allows. -/

namespace Sys2Proof

/-- The two payload buffers (20_memory.md R50, R51). -/
inductive BufName where
  /-- `TXBUF`: the payload of the frame the encoder sends. -/
  | txbuf
  /-- `RXBUF`: the payload of the frame the decoder received. -/
  | rxbuf
deriving DecidableEq, Repr

/-- How far `MAX_LEN` lies above its least value 1024. Free value: R9 gives only the range. -/
opaque Config.maxLenAbove1024 : Fin 64512

/-- `MAX_LEN`, the largest payload length and the size of each buffer: `1024 <= MAX_LEN <= 65535` (R9). A proof uses the
two bounds (`Config.maxLen_ge`, `Config.maxLen_le`) and never the sum, so the elaborator does not unfold it. -/
@[irreducible] def Config.maxLen : Nat := Config.maxLenAbove1024.val + 1024

/-- `BUF_INIT`, what the buffers hold after power-on: "an arbitrary function from address to byte, and no claim
may assume a particular value" (R11, R40). One function per buffer: 93_implementation_defined.md U1 reads it as
any value per byte (notes/assumptions/3.md). -/
opaque Config.bufInit : BufName → Nat → Byte

/-- `WINDOW_MS`, the document's 1000 ms (R10). "No rule of the model reads it": the timer is outside the block. -/
def Config.windowMs : Nat := 1000

end Sys2Proof
end

