-- ==== Sys2Proof/Machine/State.lean ====
section
/-! DEFINITION. The state of the block: the record of 10_state.md R41 field for field and under its names, and
beside it what stands on the block's ports (R12, R70, R73, R134): the inputs its agents have sent and it has not yet
taken, and what its last step gave out. -/

namespace Sys2Proof.Machine

/-- `rx_state`, the receive state machine (10_state.md R28). The codes 6 and 7 cannot be written. -/
inductive RxState where
  /-- S1: discarding bytes until `0xA5`. -/
  | hunt
  /-- S2: reading the 5 header bytes. -/
  | header
  /-- S3: reading `LEN + 2` bytes. -/
  | body
  /-- Terminal success. -/
  | valid
  /-- Terminal failure `CrcMismatch`. -/
  | crcErr
  /-- Terminal failure `MalformedLength`. -/
  | lenErr
deriving DecidableEq, Repr

/-- `xact_state`, the send-receive controller (10_state.md R36). -/
inductive XactState where
  /-- No transaction since reset. -/
  | idle
  /-- The request frame is being emitted. -/
  | send
  /-- The frame is sent and the response window is open. -/
  | wait
  /-- A valid non-NAK response frame arrived. -/
  | ok
  /-- A response frame failed the CRC. -/
  | crcFail
  /-- A response announced a LEN above `MAX_LEN`. -/
  | lenFail
  /-- Four windows expired. -/
  | retryFail
  /-- The host cancelled. -/
  | cancelled
deriving DecidableEq, Repr

/-- The result codes a response can carry (60_exceptions.md R220). The codes 5-7 are never returned. -/
inductive ResultCode where
  | ok | eopc | ebusy | eaddr | elen
deriving DecidableEq, Repr

/-- A response on the host port (30_encoding.md R73). -/
structure Response where
  rc : ResultCode
  val : Half
deriving DecidableEq, Repr

/-- The contents of a payload buffer (20_memory.md R50, R51): address and byte pairs, addresses strictly rising, all
below `MAX_LEN`, and no entry equal to what an unlisted address reads as (`BUF_INIT`, R40). -/
abbrev Memory := List Host.Cell

/-- Why a step can stop. The block has no traps (60_exceptions.md R234); each reason below is a state that the spec's
invariants (10_state.md R39) rule out and for which no rule of the spec says what happens. All are safe: no run from
reset reaches one. -/
inductive Fault where
  /-- Raised by `memRead` and `memWrite`, so by EV_TX_TAKE and EV_RX_BYTE: a buffer byte at an address that is not below
  `MAX_LEN`, which does not exist (20_memory.md R53). Safe. -/
  | noSuchBufferByte
  /-- Raised by `frameByte`, so by EV_TX_TAKE: `tx_pos` above `tx_len + 7`, where R121 defines no byte. Safe. -/
  | txPosOutOfFrame
  /-- Raised by EV_RX_BYTE: `rx_pos` outside the range that 10_state.md R29 gives for the state. Safe. -/
  | rxPosOutOfFrame
deriving DecidableEq, Repr

/-- Why an instruction is refused: only for want of a meaning. Every instruction has one, so nothing raises it. -/
inductive Refusal where
  /-- Raised by an arm of `exec` whose instruction has no meaning yet; there is none. Safe. -/
  | notModelled (mnemonic : String)
deriving DecidableEq, Repr

/-- The whole state. The first group is R41's record; the second is what stands on the ports. -/
structure State where
  /-- Stand-alone CRC accumulator (R23). -/
  crc : Half
  /-- CMD of the frame to send (R24). -/
  tx_cmd : Byte
  /-- SEQ of the frame to send (R24). -/
  tx_seq : Half
  /-- LEN of the frame to send, `<= MAX_LEN` (R24). -/
  tx_len : Half
  /-- A frame is being emitted (R25). -/
  tx_busy : Bool
  /-- Index of the next byte to emit, `0 .. MAX_LEN + 7` (R25). -/
  tx_pos : Nat
  /-- The encoder's running CRC (R26). -/
  tx_crc : Half
  /-- The receive state machine (R28). -/
  rx_state : RxState
  /-- Bytes consumed in the current decoder state, `0 .. MAX_LEN + 1` (R29). -/
  rx_pos : Nat
  /-- Received CMD (R30). -/
  rx_cmd : Byte
  /-- Received SEQ (R30). -/
  rx_seq : Half
  /-- Received LEN (R30). -/
  rx_len : Half
  /-- The CRC the frame carried (R31). -/
  rx_crc_rcv : Half
  /-- The decoder's running CRC (R33). -/
  rx_crc_calc : Half
  /-- Sticky overrun flag (R32). -/
  rx_ovr : Bool
  /-- The send-receive controller (R36). -/
  xact_state : XactState
  /-- Transmissions of the current transaction, a 3-bit count `0 .. 4` (R37). -/
  xact_attempts : BitVec 3
  /-- `TXBUF` (20_memory.md R50). -/
  txbuf : Memory
  /-- `RXBUF` (20_memory.md R51). -/
  rxbuf : Memory
  /-- PORTS: the inputs the four agents have sent, in the order in which the block takes them, next first (R12). -/
  inputs : List Input
  /-- PORTS: the response the last step gave on the host port (R70, R73); none if it gave none. -/
  response : Option Response
  /-- PORTS: the byte the TX line received with the last step (R15 `emit`, R135); none if it received none. -/
  emitted : Option Byte
deriving DecidableEq, Repr

/-- The power-on state (10_state.md R42, 70_reset_and_hazards.md R250). The buffers list nothing, so every byte
reads as `BUF_INIT`. No input has been sent and nothing has been given out (notes/assumptions/2.md). -/
def State.reset : State where
  crc := 0x0000#16
  tx_cmd := 0x00#8
  tx_seq := 0x0000#16
  tx_len := 0x0000#16
  tx_busy := false
  tx_pos := 0
  tx_crc := 0x0000#16
  rx_state := .hunt
  rx_pos := 0
  rx_cmd := 0x00#8
  rx_seq := 0x0000#16
  rx_len := 0x0000#16
  rx_crc_rcv := 0x0000#16
  rx_crc_calc := 0x0000#16
  rx_ovr := false
  xact_state := .idle
  xact_attempts := 0#3
  txbuf := []
  rxbuf := []
  inputs := []
  response := none
  emitted := none

/-- What an instruction's meaning answers. -/
abbrev Result := Host.Outcome State Fault Refusal

end Sys2Proof.Machine
end

