-- ==== Sys2Proof/Machine/Operands.lean ====
section
/-! DEFINITION. The constants the source fixes (00_scope.md R8) and the operand forms: zero extension, the two halves
of a 16-bit value, and the address an `A16` field names (R13, 20_memory.md R56, 30_encoding.md R76). -/

namespace Sys2Proof.Machine

/-- The start-of-frame byte (R8). -/
def sof : Byte := 0xA5#8

/-- The CMD of a negative acknowledgement (R8, 30_encoding.md R86). -/
def nakCmd : Byte := 0xEE#8

/-- `MAX_ATTEMPTS`: 3 retries, 4 attempts in all (R8). -/
def maxAttempts : BitVec 3 := 4#3

/-- `zext_16` of a byte (R13). -/
def zext16 (b : Byte) : Half := b.setWidth 16

/-- `v[15:8]`, the byte of a 16-bit value that the line carries first (20_memory.md R56). -/
def hiByte (v : Half) : Byte := v.extractLsb' 8 8

/-- `v[7:0]`. -/
def loByte (v : Half) : Byte := v.extractLsb' 0 8

/-- `v` with `v[15:8] <- b`. -/
def setHi (v : Half) (b : Byte) : Half := b ++ loByte v

/-- `v` with `v[7:0] <- b`. -/
def setLo (v : Half) (b : Byte) : Half := hiByte v ++ b

/-- The buffer address an `A16` field names: the unsigned field, not scaled (30_encoding.md R76). -/
def addrOf (a : Half) : Nat := a.toNat

end Sys2Proof.Machine
end

