-- ==== Sys2Proof/Machine/Flags.lean ====
section
/-! DEFINITION. The derived signals and the status words (10_state.md R27, R28, R34-R38). The block has no condition
codes: "the status fields are the only flags" (R22). -/

namespace Sys2Proof.Machine

/-- The 3-bit code of `rx_state` (R28). -/
def RxState.code : RxState → BitVec 3
  | .hunt => 0#3
  | .header => 1#3
  | .body => 2#3
  | .valid => 3#3
  | .crcErr => 4#3
  | .lenErr => 5#3

/-- A decoder state that no line event leaves (00_scope.md R18). -/
def RxState.terminal : RxState → Bool
  | .hunt | .header | .body => false
  | .valid | .crcErr | .lenErr => true

/-- The 3-bit code of `xact_state` (R36). -/
def XactState.code : XactState → BitVec 3
  | .idle => 0#3
  | .send => 1#3
  | .wait => 2#3
  | .ok => 3#3
  | .crcFail => 4#3
  | .lenFail => 5#3
  | .retryFail => 6#3
  | .cancelled => 7#3

/-- A transaction is active when `xact_state IN {SEND, WAIT}` (R36). -/
def XactState.active : XactState → Bool
  | .send | .wait => true
  | .idle | .ok | .crcFail | .lenFail | .retryFail | .cancelled => false

/-- A controller state with code 3-7, which no line or timer event leaves (R36, 43_transaction.md R197). -/
def XactState.terminal : XactState → Bool
  | .ok | .crcFail | .lenFail | .retryFail | .cancelled => true
  | .idle | .send | .wait => false

/-- The 3-bit result code (60_exceptions.md R220). -/
def ResultCode.code : ResultCode → BitVec 3
  | .ok => 0#3
  | .eopc => 1#3
  | .ebusy => 2#3
  | .eaddr => 3#3
  | .elen => 4#3

/-- `tx_locked = tx_busy OR xact_state IN {SEND, WAIT}`, a derived signal (R27). -/
def txLocked (s : State) : Bool := s.tx_busy || s.xact_state.active

/-- A one-bit signal zero-extended to 16 bits. -/
def zextBit (b : Bool) : Half := (BitVec.ofBool b).setWidth 16

/-- The TX status word: `BUSY` in bit 0, `LOCKED` in bit 1, the rest 0 (R34, 41_tx_encoder.md R133). -/
def txStatWord (s : State) : Half := zextBit (txLocked s) <<< 1 ||| zextBit s.tx_busy

/-- The RX status word: `RXST` in bits [2:0], `OVR` in bit 3, the rest 0 (R35, 42_rx_decoder.md R165). -/
def rxStatWord (s : State) : Half := zextBit s.rx_ovr <<< 3 ||| s.rx_state.code.setWidth 16

/-- The transaction status word: `XST` in bits [2:0], `ATTEMPTS` in bits [6:4], the rest 0 (R38,
43_transaction.md R186). -/
def xactStatWord (s : State) : Half := s.xact_attempts.setWidth 16 <<< 4 ||| s.xact_state.code.setWidth 16

/-- `tx_valid`, the first of the TX output's two signals (41_tx_encoder.md R134). -/
def txValid (s : State) : Bool := s.tx_busy

end Sys2Proof.Machine
end

