-- ==== Sys2Proof/Machine/Ops.lean ====
section
/-! DEFINITION. The shared operations: buffer bytes (20_memory.md R50-R54), the ways a step gives something out
(00_scope.md R15), how a command is turned away (`raise`; the block takes no exception: 60_exceptions.md R234 says
that no state is saved, no vector is taken and no mode changes, and R225 that the state stays as it was), the starts
and stops that several instructions share, and taking the next input. -/

namespace Sys2Proof.Machine

/-- The entry listed for an address, if there is one. -/
def Memory.lookup : Memory → Nat → Option Byte
  | [], _ => none
  | (k, v) :: m, a => if a = k then some v else Memory.lookup m a

/-- Lists a byte at an address, in order, in place of what was listed there. -/
def Memory.insert : Memory → Nat → Byte → Memory
  | [], a, b => [(a, b)]
  | (k, v) :: m, a, b =>
    if a < k then (a, b) :: (k, v) :: m
    else if a = k then (a, b) :: m
    else (k, v) :: Memory.insert m a b

/-- Takes an address out of the list. -/
def Memory.erase : Memory → Nat → Memory
  | [], _ => []
  | (k, v) :: m, a => if a = k then Memory.erase m a else (k, v) :: Memory.erase m a

/-- The byte at an address: the listed one, else the buffer's `BUF_INIT` byte (10_state.md R40). The one place that
says what an unlisted address reads as. -/
def Memory.read (n : BufName) (m : Memory) (a : Nat) : Byte :=
  match Memory.lookup m a with
  | some b => b
  | none => Config.bufInit n a

/-- The buffer after a byte is stored: the `BUF_INIT` byte is stored by listing nothing, so that equal contents are
equal data. -/
def Memory.write (n : BufName) (m : Memory) (a : Nat) (b : Byte) : Memory :=
  if b = Config.bufInit n a then Memory.erase m a else Memory.insert m a b

/-- The entries from address `lo` up are in canonical form: rising, below `MAX_LEN`, none equal to `BUF_INIT`. -/
def Memory.wfFrom (n : BufName) : Nat → Memory → Bool
  | _, [] => true
  | lo, (k, v) :: m =>
    decide (lo ≤ k) && decide (k < Config.maxLen) && decide (v ≠ Config.bufInit n k) && Memory.wfFrom n (k + 1) m

/-- The canonical form of a buffer's contents. -/
def Memory.wf (n : BufName) (m : Memory) : Bool := Memory.wfFrom n 0 m

/-- The contents of a buffer. -/
def bufOf (n : BufName) (s : State) : Memory :=
  match n with
  | .txbuf => s.txbuf
  | .rxbuf => s.rxbuf

/-- `MemRead(B, a, 1)` (00_scope.md R15). An address not below `MAX_LEN` does not exist (20_memory.md R53). -/
def memRead (n : BufName) (a : Nat) (s : State) : Except Fault Byte :=
  if a < Config.maxLen then .ok (Memory.read n (bufOf n s) a) else .error .noSuchBufferByte

/-- `MemWrite(B, a, 1, b)` (00_scope.md R15). An address not below `MAX_LEN` does not exist (20_memory.md R53). -/
def memWrite (n : BufName) (a : Nat) (b : Byte) (s : State) : Except Fault State :=
  if a < Config.maxLen then
    match n with
    | .txbuf => .ok { s with txbuf := Memory.write .txbuf s.txbuf a b }
    | .rxbuf => .ok { s with rxbuf := Memory.write .rxbuf s.rxbuf a b }
  else .error .noSuchBufferByte

/-- The state with a response on the host port and nothing on the TX line (`respond`, 00_scope.md R15). -/
def respondState (rc : ResultCode) (val : Half) (s : State) : State :=
  { s with response := some ⟨rc, val⟩, emitted := none }

/-- `respond(rc, val)`: completes a host command (00_scope.md R15, 30_encoding.md R73). -/
def respond (rc : ResultCode) (val : Half) (s : State) : Result := .next (respondState rc val s)

/-- `raise E`: completes a host command with the code `E`, value 0 and no other change (00_scope.md R15,
60_exceptions.md R225). -/
def raise (rc : ResultCode) (s : State) : Result := respond rc 0x0000#16 s

/-- An event that gives nothing out: the event port returns no response (30_encoding.md R70). -/
def quiet (s : State) : State := { s with response := none, emitted := none }

/-- `emit(b)`: the TX line receives a byte (00_scope.md R15). -/
def emit (b : Byte) (s : State) : State := { s with response := none, emitted := some b }

/-- The encoder starts a frame at its first byte (41_tx_encoder.md R131, 43_transaction.md R185, R190). -/
def startEncoder (s : State) : State := { s with tx_busy := true, tx_pos := 0, tx_crc := 0x0000#16 }

/-- The encoder goes idle (41_tx_encoder.md R135, 43_transaction.md R187). -/
def stopEncoder (s : State) : State := { s with tx_busy := false, tx_pos := 0 }

/-- The decoder goes back to `HUNT` (43_transaction.md R187, R193). -/
def huntDecoder (s : State) : State := { s with rx_state := .hunt, rx_pos := 0 }

/-- The flush: the decoder goes back to `HUNT` and the overrun flag is cleared (20_memory.md R61,
42_rx_decoder.md R163, 43_transaction.md R185, R190). -/
def flushDecoder (s : State) : State := { s with rx_state := .hunt, rx_pos := 0, rx_ovr := false }

/-- Every register at its reset value, the buffers as they were (44_control.md R211, 70_reset_and_hazards.md R251).
What the agents have sent and the block has not taken is no register of the block and stays. -/
def resetRegisters (s : State) : State :=
  { State.reset with
    txbuf := s.txbuf
    rxbuf := s.rxbuf
    inputs := s.inputs
    response := s.response
    emitted := s.emitted }

/-- The next input and the state without it: the block takes one input per step (00_scope.md R12). -/
def takeInput (s : State) : Option (Input × State) :=
  match s.inputs with
  | [] => none
  | x :: rest => some (x, { s with inputs := rest })

end Sys2Proof.Machine
end

