-- ==== Sys2Proof/Machine/Control.lean ====
section
/-! DEFINITION. The control commands, and what the block does with a word it does not know (44_control.md). -/

namespace Sys2Proof.Machine

/-- `NOP` (R210). -/
def execNop (s : State) : Result := respond .ok 0x0000#16 s

/-- `RESET` (R211): accepted in every state. -/
def execReset (s : State) : Result := respond .ok 0x0000#16 (resetRegisters s)

/-- A host-port word whose opcode is undefined there: `EOPC` and no change (R212). -/
def undefinedHostWord (s : State) : Result := raise .eopc s

/-- An event-port word whose opcode is undefined there: no change and no output (R213). -/
def undefinedEventWord (s : State) : Result := .next (quiet s)

/-- A word that stands for nothing on its port (30_encoding.md R78). -/
def undefinedWord (p : Port) (s : State) : Result :=
  match p with
  | .host => undefinedHostWord s
  | .event => undefinedEventWord s

/-- A step with no input to take: "the block has no step of its own" and "does nothing between inputs"
(00_scope.md R12, 60_exceptions.md R241). -/
def noInput (s : State) : Result := .next (quiet s)

end Sys2Proof.Machine
end

