-- ==== Sys2Proof/Machine/Crc.lean ====
section
/-! DEFINITION. The CRC-16 function (40_crc.md R100-R102) and the stand-alone CRC unit (R103-R105). -/

namespace Sys2Proof.Machine

/-- The polynomial x^16 + x^12 + x^5 + 1 with the x^16 term implicit (R100, 00_scope.md R8). -/
def crcPoly : Half := 0x1021#16

/-- The initial value, the source's `0x0000` (R101, 00_scope.md R8). -/
def crcInitial : Half := 0x0000#16

/-- One pass of the loop of R100: shift left, and feed the polynomial back if bit 15 was set. -/
def crcShift (c : Half) : Half := if c.getLsbD 15 then (c <<< 1) ^^^ crcPoly else c <<< 1

/-- `n` passes of the loop. -/
def crcShifts : Nat → Half → Half
  | 0, c => c
  | n + 1, c => crcShifts n (crcShift c)

/-- `crc_step(c, b)` (R100). -/
def crcStep (c : Half) (b : Byte) : Half := crcShifts 8 (c ^^^ zext16 b <<< 8)

/-- `crc_step` folded over bytes from a given value. -/
def crcFrom (c : Half) (bytes : List Byte) : Half := bytes.foldl crcStep c

/-- `crc16(s)` (R101). -/
def crc16 (bytes : List Byte) : Half := crcFrom crcInitial bytes

/-- `CRC_INIT` (R103). -/
def execCrcInit (s : State) : Result := respond .ok 0x0000#16 { s with crc := crcInitial }

/-- `CRC_BYTE b` (R104). -/
def execCrcByte (b : Byte) (s : State) : Result := respond .ok 0x0000#16 { s with crc := crcStep s.crc b }

/-- `CRC_READ` (R105). -/
def execCrcRead (s : State) : Result := respond .ok s.crc s

end Sys2Proof.Machine
end

