-- ==== Sys2Proof/Machine/Xact.lean ====
section
/-! DEFINITION. The send-receive controller (43_transaction.md): its three commands, the window timer's event, and its
reaction to a frame the decoder completes. -/

namespace Sys2Proof.Machine

/-- The first transmission of a transaction: the attempt count is 1, the encoder starts and the decoder is fresh
(R185). -/
def beginTransaction (s : State) : State :=
  flushDecoder (startEncoder { s with xact_state := .send, xact_attempts := 1#3 })

/-- `XACT_START` (R185). -/
def execXactStart (s : State) : Result :=
  if txLocked s then raise .ebusy s else respond .ok 0x0000#16 (beginTransaction s)

/-- `XACT_STAT` (R186). -/
def execXactStat (s : State) : Result := respond .ok (xactStatWord s) s

/-- `XACT_CANCEL` (R187): `xact_attempts`, `tx_crc` and `rx_ovr` keep their values; with no active transaction nothing
changes and the command succeeds. -/
def execXactCancel (s : State) : Result :=
  if s.xact_state.active then
    respond .ok 0x0000#16 (huntDecoder (stopEncoder { s with xact_state := .cancelled }))
  else respond .ok 0x0000#16 s

/-- Retransmission (R190): one attempt more, the decoder flushed, the encoder restarted on the same configuration. -/
def retransmit (s : State) : State :=
  startEncoder (flushDecoder { s with xact_state := .send, xact_attempts := s.xact_attempts + 1#3 })

/-- `EV_WINDOW_EXPIRE` (R189): ignored unless a window is open; then a retry (R190) or, after the fourth attempt,
`RETRYFAIL` with the decoder left as it is (R191). -/
def execEvWindowExpire (s : State) : Result :=
  if s.xact_state = .wait then
    if s.xact_attempts < maxAttempts then .next (quiet (retransmit s))
    else .next (quiet { s with xact_state := .retryFail })
  else .next (quiet s)

/-- What the controller does with a frame the decoder has just completed while a transaction is active: the CRC check
comes first, then the NAK test (R192-R195, 60_exceptions.md R232). -/
def frameCompleted (s : State) : State :=
  match s.rx_state with
  | .valid => if s.rx_cmd = nakCmd then huntDecoder s else { s with xact_state := .ok }
  | .crcErr => { s with xact_state := .crcFail }
  | .lenErr => { s with xact_state := .lenFail }
  | .hunt | .header | .body => s

/-- The controller's hook in the step of `EV_RX_BYTE` (42_rx_decoder.md R161): it acts when this step moved the decoder
from the state `before` into a terminal state and a transaction is active. -/
def controllerHook (before : RxState) (s : State) : State :=
  if before.terminal = false ∧ s.rx_state.terminal = true ∧ s.xact_state.active = true then frameCompleted s else s

end Sys2Proof.Machine
end

