-- ==== Sys2Proof/Machine/Rx.lean ====
section
/-! DEFINITION. The frame decoder (42_rx_decoder.md): the receive state machine, one byte a step, and the decoder's
commands. -/

namespace Sys2Proof.Machine

/-- In `HUNT`: any byte but SOF is discarded (R154); SOF starts a frame with clear header and CRC registers (R155). -/
def rxHunt (b : Byte) (s : State) : State :=
  if b = sof then
    { s with
      rx_state := .header
      rx_pos := 0
      rx_cmd := 0x00#8
      rx_seq := 0x0000#16
      rx_len := 0x0000#16
      rx_crc_rcv := 0x0000#16
      rx_crc_calc := crcInitial }
  else s

/-- After the fifth header byte: the length is accepted, or it is above `MAX_LEN` (R158). -/
def rxCheckLen (s : State) : State :=
  if Config.maxLen < s.rx_len.toNat then { s with rx_state := .lenErr, rx_pos := 0 }
  else { s with rx_state := .body, rx_pos := 0 }

/-- In `HEADER`: the byte enters the CRC and is header byte `rx_pos` (R156). -/
def rxHeader (b : Byte) (s : State) : Except Fault State :=
  let c := { s with rx_crc_calc := crcStep s.rx_crc_calc b }
  match s.rx_pos with
  | 0 => .ok { c with rx_cmd := b, rx_pos := 1 }
  | 1 => .ok { c with rx_seq := setHi s.rx_seq b, rx_pos := 2 }
  | 2 => .ok { c with rx_seq := setLo s.rx_seq b, rx_pos := 3 }
  | 3 => .ok { c with rx_len := setHi s.rx_len b, rx_pos := 4 }
  | 4 => .ok (rxCheckLen { c with rx_len := setLo s.rx_len b })
  | _ => .error .rxPosOutOfFrame

/-- A payload byte: stored in `RXBUF` and entered into the CRC (R157). -/
def rxPayload (b : Byte) (s : State) : Except Fault State :=
  match memWrite .rxbuf s.rx_pos b s with
  | .ok t => .ok { t with rx_crc_calc := crcStep s.rx_crc_calc b, rx_pos := s.rx_pos + 1 }
  | .error f => .error f

/-- The high CRC byte (R159). -/
def rxCrcHi (b : Byte) (s : State) : State :=
  { s with rx_crc_rcv := setHi s.rx_crc_rcv b, rx_pos := s.rx_pos + 1 }

/-- The low CRC byte: the frame is complete, and the CRC it carried is compared (R160). -/
def rxCrcLo (b : Byte) (s : State) : State :=
  { s with
    rx_crc_rcv := setLo s.rx_crc_rcv b
    rx_pos := 0
    rx_state := if setLo s.rx_crc_rcv b = s.rx_crc_calc then .valid else .crcErr }

/-- In `BODY`: payload, high CRC byte or low CRC byte, by position (R157, R159, R160). -/
def rxBody (b : Byte) (s : State) : Except Fault State :=
  if s.rx_pos < s.rx_len.toNat then rxPayload b s
  else if s.rx_pos = s.rx_len.toNat then .ok (rxCrcHi b s)
  else if s.rx_pos = s.rx_len.toNat + 1 then .ok (rxCrcLo b s)
  else .error .rxPosOutOfFrame

/-- The receive state machine's step on a byte (R150). In a terminal state the byte is dropped and the overrun flag is
set (R153). -/
def rxByte (b : Byte) (s : State) : Except Fault State :=
  match s.rx_state with
  | .hunt => .ok (rxHunt b s)
  | .header => rxHeader b s
  | .body => rxBody b s
  | .valid | .crcErr | .lenErr => .ok { s with rx_ovr := true }

/-- `EV_RX_BYTE b` (R152): the receive state machine, then the controller's hook (R161). -/
def execEvRxByte (b : Byte) (s : State) : Result :=
  match rxByte b s with
  | .ok t => .next (quiet (controllerHook s.rx_state t))
  | .error f => .fault f

/-- `RX_FLUSH` (R163): refused while a transaction owns the decoder; the header and CRC registers and `RXBUF` keep their
values. -/
def execRxFlush (s : State) : Result :=
  if s.xact_state.active then raise .ebusy s else respond .ok 0x0000#16 (flushDecoder s)

/-- `RXB_RD a` (R164). -/
def execRxbRd (a : Half) (s : State) : Result :=
  if Config.maxLen ≤ addrOf a then raise .eaddr s
  else
    match memRead .rxbuf (addrOf a) s with
    | .ok b => respond .ok (zext16 b) s
    | .error f => .fault f

/-- `RX_STAT` (R165). -/
def execRxStat (s : State) : Result := respond .ok (rxStatWord s) s

/-- `RX_GETCMD` (R166). -/
def execRxGetcmd (s : State) : Result := respond .ok (zext16 s.rx_cmd) s

/-- `RX_GETSEQ` (R167). -/
def execRxGetseq (s : State) : Result := respond .ok s.rx_seq s

/-- `RX_GETLEN` (R168). -/
def execRxGetlen (s : State) : Result := respond .ok s.rx_len s

/-- `RX_GETCRC` (R169). -/
def execRxGetcrc (s : State) : Result := respond .ok s.rx_crc_rcv s

/-- `RX_GETCALC` (R170). -/
def execRxGetcalc (s : State) : Result := respond .ok s.rx_crc_calc s

end Sys2Proof.Machine
end

