-- ==== Sys2Proof/Machine/Frame.lean ====
section
/-! DEFINITION. The frame on the wire (30_encoding.md R80-R83) as a list of bytes, and the radio protocol's CMD values
(R88, data for the host: the block gives no CMD but NAK a meaning, R87). -/

namespace Sys2Proof.Machine

/-- `F[1..5]`: CMD, then SEQ and LEN big-endian (R80, 20_memory.md R56). -/
def frameHeader (cmd : Byte) (seq len : Half) : List Byte :=
  [cmd, hiByte seq, loByte seq, hiByte len, loByte len]

/-- `F[1..5+N]`, the bytes the CRC covers (R82). -/
def frameCovered (cmd : Byte) (seq : Half) (payload : List Byte) : List Byte :=
  frameHeader cmd seq (BitVec.ofNat 16 payload.length) ++ payload

/-- A 16-bit value as the line carries it (20_memory.md R56). -/
def bigEndian (v : Half) : List Byte := [hiByte v, loByte v]

/-- The frame with a payload of at most 65535 bytes (R80). -/
def frame (cmd : Byte) (seq : Half) (payload : List Byte) : List Byte :=
  sof :: (frameCovered cmd seq payload ++ bigEndian (crc16 (frameCovered cmd seq payload)))

/-- The first `n` bytes of a buffer. -/
def bufPrefix (n : BufName) (m : Memory) (len : Nat) : List Byte := (List.range len).map (Memory.read n m)

/-- The payload the encoder sends: `TXBUF[0 .. tx_len-1]` (20_memory.md R50). -/
def txPayload (s : State) : List Byte := bufPrefix .txbuf s.txbuf s.tx_len.toNat

/-- The frame the encoder sends for the present TX configuration (41_tx_encoder.md R120, R121). -/
def requestFrame (s : State) : List Byte := frame s.tx_cmd s.tx_seq (txPayload s)

/-- One step of the radio protocol's session (R88). -/
structure SessionStep where
  step : Nat
  name : String
  readCmd : Byte
  writeCmd : Byte
  /-- SEQ runs from 0 to this value. -/
  lastSeq : Nat
  /-- Payload bytes of each packet. -/
  payloadBytes : Nat
deriving DecidableEq, Repr

/-- The session of R88, in its order; the radio's negative acknowledgement is `nakCmd`. Step 3's 128 bytes are the
response's, its request is empty. -/
def session : List SessionStep :=
  [⟨1, "Handshake", 0x02#8, 0x02#8, 0, 15⟩,
   ⟨2, "Password", 0x05#8, 0x05#8, 0, 6⟩,
   ⟨3, "Get Version", 0x46#8, 0x46#8, 0, 128⟩,
   ⟨4, "DTMF", 0x16#8, 0x36#8, 0, 272⟩,
   ⟨5, "Encryption keys", 0x15#8, 0x35#8, 0, 264⟩,
   ⟨6, "Address book", 0x13#8, 0x33#8, 79, 800⟩,
   ⟨7, "Rx group list", 0x14#8, 0x34#8, 3, 1024⟩,
   ⟨8, "Channels", 0x10#8, 0x30#8, 63, 1024⟩,
   ⟨9, "VFO", 0x11#8, 0x31#8, 0, 128⟩,
   ⟨10, "Optional functions", 0x12#8, 0x32#8, 0, 64⟩,
   ⟨11, "Basic info", 0x19#8, 0x39#8, 0, 64⟩,
   ⟨12, "End session", 0x01#8, 0x01#8, 0, 2⟩]

/-- The fixed payload of the handshake, `PROGRAMJC8810DU` (R88). -/
def handshakePayload : List Byte :=
  [0x50#8, 0x52#8, 0x4F#8, 0x47#8, 0x52#8, 0x41#8, 0x4D#8, 0x4A#8, 0x43#8, 0x38#8, 0x38#8, 0x31#8, 0x30#8, 0x44#8, 0x55#8]

/-- The default payload of the password step (R88). -/
def defaultPassword : List Byte := List.replicate 6 0xFF#8

/-- The payload of the end of the session (R88). -/
def endSessionPayload : List Byte := [0x00#8, 0x00#8]

end Sys2Proof.Machine
end

