-- ==== Sys2Proof/Machine/Tx.lean ====
section
/-! DEFINITION. The frame encoder (41_tx_encoder.md): the byte it offers, its ten commands and the TX line's event. -/

namespace Sys2Proof.Machine

/-- `frame_byte(p)` (R121). "It is used only for `0 <= p <= 7 + L`": beyond that it is a fault. -/
def frameByte (p : Nat) (s : State) : Except Fault Byte :=
  if p = 0 then .ok sof
  else if p = 1 then .ok s.tx_cmd
  else if p = 2 then .ok (hiByte s.tx_seq)
  else if p = 3 then .ok (loByte s.tx_seq)
  else if p = 4 then .ok (hiByte s.tx_len)
  else if p = 5 then .ok (loByte s.tx_len)
  else if p ≤ 5 + s.tx_len.toNat then memRead .txbuf (p - 6) s
  else if p = 6 + s.tx_len.toNat then .ok (hiByte s.tx_crc)
  else if p = 7 + s.tx_len.toNat then .ok (loByte s.tx_crc)
  else .error .txPosOutOfFrame

/-- `tx_data`, the second of the TX output's two signals, meaningful only while `tx_valid` is 1 (R134). -/
def txData (s : State) : Except Fault Byte := frameByte s.tx_pos s

/-- `TXB_WR a, b` (R123): `EBUSY` is checked before `EADDR` (60_exceptions.md R231). -/
def execTxbWr (a : Half) (b : Byte) (s : State) : Result :=
  if txLocked s then raise .ebusy s
  else if Config.maxLen ≤ addrOf a then raise .eaddr s
  else
    match memWrite .txbuf (addrOf a) b s with
    | .ok t => respond .ok 0x0000#16 t
    | .error f => .fault f

/-- `TXB_RD a` (R124). -/
def execTxbRd (a : Half) (s : State) : Result :=
  if Config.maxLen ≤ addrOf a then raise .eaddr s
  else
    match memRead .txbuf (addrOf a) s with
    | .ok b => respond .ok (zext16 b) s
    | .error f => .fault f

/-- `TX_SETCMD b` (R125). -/
def execTxSetcmd (b : Byte) (s : State) : Result :=
  if txLocked s then raise .ebusy s else respond .ok 0x0000#16 { s with tx_cmd := b }

/-- `TX_GETCMD` (R126). -/
def execTxGetcmd (s : State) : Result := respond .ok (zext16 s.tx_cmd) s

/-- `TX_SETSEQ v` (R127). -/
def execTxSetseq (v : Half) (s : State) : Result :=
  if txLocked s then raise .ebusy s else respond .ok 0x0000#16 { s with tx_seq := v }

/-- `TX_GETSEQ` (R128). -/
def execTxGetseq (s : State) : Result := respond .ok s.tx_seq s

/-- `TX_SETLEN v` (R129): `EBUSY` is checked before `ELEN` (60_exceptions.md R231). -/
def execTxSetlen (v : Half) (s : State) : Result :=
  if txLocked s then raise .ebusy s
  else if Config.maxLen < v.toNat then raise .elen s
  else respond .ok 0x0000#16 { s with tx_len := v }

/-- `TX_GETLEN` (R130). -/
def execTxGetlen (s : State) : Result := respond .ok s.tx_len s

/-- `TX_START` (R131). -/
def execTxStart (s : State) : Result :=
  if txLocked s then raise .ebusy s else respond .ok 0x0000#16 (startEncoder s)

/-- `TX_STAT` (R133). -/
def execTxStat (s : State) : Result := respond .ok (txStatWord s) s

/-- The encoder after the byte `b` at `tx_pos` is taken: the bytes at 1 to `5 + tx_len` enter the CRC (R135). -/
def txCrcAfter (b : Byte) (s : State) : State :=
  if 1 ≤ s.tx_pos ∧ s.tx_pos ≤ 5 + s.tx_len.toNat then { s with tx_crc := crcStep s.tx_crc b } else s

/-- The end of transmission opens the response window of the transaction that sent the frame
(R135, 43_transaction.md R188). -/
def openWindow (s : State) : State :=
  if s.xact_state = .send then { s with xact_state := .wait } else s

/-- The encoder's position after a byte is taken: idle after the last byte, else the next index (R135). -/
def txAdvance (s : State) : State :=
  if s.tx_pos = 7 + s.tx_len.toNat then openWindow (stopEncoder s) else { s with tx_pos := s.tx_pos + 1 }

/-- `EV_TX_TAKE` (R135). A take while idle gives no byte and changes nothing. -/
def execEvTxTake (s : State) : Result :=
  if s.tx_busy then
    match frameByte s.tx_pos s with
    | .ok b => .next (emit b (txAdvance (txCrcAfter b s)))
    | .error f => .fault f
  else .next (quiet s)

end Sys2Proof.Machine
end

