-- ==== Sys2Proof/Machine/Dispatch.lean ====
section
/-! DEFINITION. One arm per constructor of Instr, each one direct call of that instruction's meaning. -/

namespace Sys2Proof.Machine

def exec (i : Instr) (s : State) : Host.Outcome State Fault Refusal :=
  match i with
  | .nop => Sys2Proof.Machine.execNop s
  | .reset => Sys2Proof.Machine.execReset s
  | .crcInit => Sys2Proof.Machine.execCrcInit s
  | .crcByte b => Sys2Proof.Machine.execCrcByte b s
  | .crcRead => Sys2Proof.Machine.execCrcRead s
  | .txbWr a b => Sys2Proof.Machine.execTxbWr a b s
  | .txbRd a => Sys2Proof.Machine.execTxbRd a s
  | .txSetcmd b => Sys2Proof.Machine.execTxSetcmd b s
  | .txGetcmd => Sys2Proof.Machine.execTxGetcmd s
  | .txSetseq v => Sys2Proof.Machine.execTxSetseq v s
  | .txGetseq => Sys2Proof.Machine.execTxGetseq s
  | .txSetlen v => Sys2Proof.Machine.execTxSetlen v s
  | .txGetlen => Sys2Proof.Machine.execTxGetlen s
  | .txStart => Sys2Proof.Machine.execTxStart s
  | .txStat => Sys2Proof.Machine.execTxStat s
  | .rxFlush => Sys2Proof.Machine.execRxFlush s
  | .rxbRd a => Sys2Proof.Machine.execRxbRd a s
  | .rxStat => Sys2Proof.Machine.execRxStat s
  | .rxGetcmd => Sys2Proof.Machine.execRxGetcmd s
  | .rxGetseq => Sys2Proof.Machine.execRxGetseq s
  | .rxGetlen => Sys2Proof.Machine.execRxGetlen s
  | .rxGetcrc => Sys2Proof.Machine.execRxGetcrc s
  | .rxGetcalc => Sys2Proof.Machine.execRxGetcalc s
  | .xactStart => Sys2Proof.Machine.execXactStart s
  | .xactStat => Sys2Proof.Machine.execXactStat s
  | .xactCancel => Sys2Proof.Machine.execXactCancel s
  | .evRxByte b => Sys2Proof.Machine.execEvRxByte b s
  | .evTxTake => Sys2Proof.Machine.execEvTxTake s
  | .evWindowExpire => Sys2Proof.Machine.execEvWindowExpire s

end Sys2Proof.Machine
end

