-- ==== Sys2Proof/Machine/Step.lean ====
section
/-! DEFINITION. One step: the block takes the next input word, reads what it stands for on its port, and processes it
(00_scope.md R12). There is no program counter and no program (10_state.md R21): the words come from the agents, and
the list `inputs` holds one interleaving of them; a statement about every state is a statement about every interleaving. -/

namespace Sys2Proof.Machine

/-- One step of the block. -/
def step (s : State) : Host.Outcome State Fault Refusal :=
  match takeInput s with
  | none => noInput s
  | some (x, t) =>
    match decode x.port x.word with
    | some i => exec i t
    | none => undefinedWord x.port t

/-- The state with a table word sent as the next input, on the port that its opcode belongs to (R70): the very next step
takes and runs it (notes/assumptions/6.md). -/
def State.withFetchWord (s : State) (nbits w : Nat) : State :=
  { s with
    inputs := ⟨portOf (BitVec.ofNat 32 (w % 2 ^ nbits)), BitVec.ofNat 32 (w % 2 ^ nbits)⟩ :: s.inputs }

end Sys2Proof.Machine
end

