-- ==== Sys2Proof/Safety.lean ====
section
/-! DEFINITION. What counts as a good state (10_state.md R39), and the vocabulary for runs of several inputs. -/

namespace Sys2Proof.Machine

/-- The invariants the spec says the block keeps after every step (10_state.md R39), one field per line of the rule, and
the canonical form of the two buffers, which is the model's own (20_memory.md R50, R51, R53). -/
structure CodecInv (s : State) : Prop where
  tx_len_le : s.tx_len.toNat ≤ Config.maxLen
  send_busy : s.xact_state = .send → s.tx_busy = true
  wait_idle : s.xact_state = .wait → s.tx_busy = false
  attempts_range : s.xact_state = .send ∨ s.xact_state = .wait → 1 ≤ s.xact_attempts.toNat ∧ s.xact_attempts.toNat ≤ 4
  tx_pos_le : s.tx_busy = true → s.tx_pos ≤ s.tx_len.toNat + 7
  header_pos : s.rx_state = .header → s.rx_pos ≤ 4
  body_pos : s.rx_state = .body → s.rx_len.toNat ≤ Config.maxLen ∧ s.rx_pos ≤ s.rx_len.toNat + 1
  other_pos : s.rx_state ≠ .header → s.rx_state ≠ .body → s.rx_pos = 0
  txbuf_wf : Memory.wf .txbuf s.txbuf = true
  rxbuf_wf : Memory.wf .rxbuf s.rxbuf = true

/-- The bytes the encoder's CRC covers for the present TX configuration: `F[1..5+L]` (41_tx_encoder.md R132). -/
def txCovered (s : State) : List Byte := frameCovered s.tx_cmd s.tx_seq (txPayload s)

/-- What `tx_crc` holds while a frame is emitted: before the byte at index `p` is taken it is the CRC of `F[1..p-1]`,
and it stops growing at `F[5+L]` (R132). -/
def TxCrcTracks (s : State) : Prop :=
  s.tx_busy = true → s.tx_crc = crc16 ((txCovered s).take (s.tx_pos - 1))

/-- The bytes of the frame being received that have entered `rx_crc_calc` (10_state.md R33), as the decoder's registers
and `RXBUF` hold them: the header bytes seen so far, then the payload bytes seen so far. -/
def rxCovered (s : State) : List Byte :=
  match s.rx_state with
  | .header => (frameHeader s.rx_cmd s.rx_seq s.rx_len).take s.rx_pos
  | .body => frameHeader s.rx_cmd s.rx_seq s.rx_len ++ bufPrefix .rxbuf s.rxbuf (min s.rx_pos s.rx_len.toNat)
  | .valid | .crcErr => frameHeader s.rx_cmd s.rx_seq s.rx_len ++ bufPrefix .rxbuf s.rxbuf s.rx_len.toNat
  | .lenErr => frameHeader s.rx_cmd s.rx_seq s.rx_len
  | .hunt => []

/-- What the decoder's registers say of each other: outside `HUNT`, `rx_crc_calc` is the CRC of the bytes received
(R33); a frame is `VALID` exactly when the CRC it carried is that value (42_rx_decoder.md R160, 30_encoding.md R85);
`LENERR` holds a length above `MAX_LEN`, the others one within it (R158). -/
structure RxTracks (s : State) : Prop where
  calc_is_crc : s.rx_state ≠ .hunt → s.rx_crc_calc = crc16 (rxCovered s)
  valid_equal : s.rx_state = .valid → s.rx_crc_rcv = s.rx_crc_calc
  crcErr_differs : s.rx_state = .crcErr → s.rx_crc_rcv ≠ s.rx_crc_calc
  lenErr_long : s.rx_state = .lenErr → Config.maxLen < s.rx_len.toNat
  ended_fits : s.rx_state = .valid ∨ s.rx_state = .crcErr → s.rx_len.toNat ≤ Config.maxLen

/-- The state after `n` steps, as the host's interface runs them. -/
def runSteps (n : Nat) (s : State) : Result := Host.Core.run Sys2Proof.core n s

/-- The bytes the TX line receives in the next `n` steps, in order; it ends where the machine stops. -/
def lineBytes : Nat → State → List Byte
  | 0, _ => []
  | n + 1, s =>
    match step s with
    | .next t => t.emitted.toList ++ lineBytes n t
    | .fault _ => []
    | .refused _ => []

/-- The inputs that deliver received bytes, one `EV_RX_BYTE` each. -/
def rxInputs (bytes : List Byte) : List Input := bytes.map fun b => (Instr.evRxByte b).toInput

/-- `n` consecutive `EV_TX_TAKE` events. -/
def takeInputs (n : Nat) : List Input := List.replicate n (Instr.evTxTake).toInput

/-- The bytes that `CRC_BYTE` commands among some inputs carry. -/
def crcBytesIn (xs : List Input) : List Byte :=
  xs.filterMap fun x =>
    match decode x.port x.word with
    | some (.crcByte b) => some b
    | _ => none

/-- A transaction has ended (70_reset_and_hazards.md R263). -/
def transactionEnded (s : State) : Bool := s.xact_state.terminal

/-- A stand-alone reception has ended (R263). -/
def receptionEnded (s : State) : Bool := s.rx_state.terminal

/-- The next input is a `TX_START` that will start the encoder: it is not refused with `EBUSY`, so no transaction is
active and the transmission stands alone (41_tx_encoder.md R131). -/
def txStartNext (s : State) : Bool :=
  match takeInput s with
  | some (x, _) => decode x.port x.word == some .txStart && !txLocked s
  | none => false

/-- `tx_busy = 0` in this state or in one of the next `n`. -/
def idleWithin : Nat → State → Bool
  | 0, s => !s.tx_busy
  | n + 1, s =>
    !s.tx_busy ||
      match step s with
      | .next t => idleWithin n t
      | .fault _ => false
      | .refused _ => false

/-- The stand-alone transmission that the next input starts has ended `n` steps after its `TX_START`, or earlier: "when
`tx_busy = 0` after `TX_START`" (R263). It is said over a run, because the state alone does not tell an encoder that has
ended from one that never started (notes/assumptions/16.md). -/
def transmissionEnded (n : Nat) (s : State) : Bool :=
  txStartNext s &&
    match step s with
    | .next t => idleWithin n t
    | .fault _ => false
    | .refused _ => false

end Sys2Proof.Machine
end

