-- ==== Sys2Proof/Certificates/Slice0/Obligations.lean ====
section
/-! DEFINITION. The statements for the provers. Each says what a numbered rule of spec/ says the block does; its
docstring names the rule. Next states are written out field by field, so that a statement does not lean on the model's
own operations. -/

open Sys2Proof Sys2Proof.Machine

/-- The state with the response `(rc, val)` on the host port, nothing on the TX line and all else unchanged. -/
def Sys2Proof.Expect.answered (rc : ResultCode) (val : Half) (s : State) : State :=
  { s with response := some ⟨rc, val⟩, emitted := none }

/-- The state with nothing given out and all else unchanged. -/
def Sys2Proof.Expect.silent (s : State) : State := { s with response := none, emitted := none }

/-- `xact_state IN {SEND, WAIT}` (10_state.md R36). -/
def Sys2Proof.Expect.active (s : State) : Prop := s.xact_state = .send ∨ s.xact_state = .wait

/-- `tx_locked = 1` (10_state.md R27). -/
def Sys2Proof.Expect.locked (s : State) : Prop := s.tx_busy = true ∨ s.xact_state = .send ∨ s.xact_state = .wait

/-- `rx_state IN {VALID, CRCERR, LENERR}` (42_rx_decoder.md R150). -/
def Sys2Proof.Expect.ended (s : State) : Prop := s.rx_state = .valid ∨ s.rx_state = .crcErr ∨ s.rx_state = .lenErr

/-- The opcodes of 30_encoding.md R74. -/
def Sys2Proof.Expect.hostOpcodes : List Byte :=
  [0x00#8, 0x01#8, 0x10#8, 0x11#8, 0x12#8, 0x20#8, 0x21#8, 0x22#8, 0x23#8, 0x24#8, 0x25#8, 0x26#8, 0x27#8, 0x28#8,
   0x29#8, 0x30#8, 0x31#8, 0x32#8, 0x33#8, 0x34#8, 0x35#8, 0x36#8, 0x37#8, 0x40#8, 0x41#8, 0x42#8]

/-- On the host port the opcode `op`, with whatever the word's other fields hold, is the instruction `f A16 D8`
(30_encoding.md R71, R72, R74). -/
def Sys2Proof.Expect.hostWord (op : Byte) (f : Half → Byte → Instr) : Prop :=
  ∀ w : Word, w.extractLsb' 24 8 = op → decode .host w = some (f (w.extractLsb' 8 16) (w.extractLsb' 0 8))

/-- The same on the event port (30_encoding.md R75). -/
def Sys2Proof.Expect.eventWord (op : Byte) (f : Byte → Instr) : Prop :=
  ∀ w : Word, w.extractLsb' 24 8 = op → decode .event w = some (f (w.extractLsb' 0 8))

/-- The codes of 10_state.md R28. -/
def Sys2Proof.Expect.rxCode : RxState → Nat
  | .hunt => 0 | .header => 1 | .body => 2 | .valid => 3 | .crcErr => 4 | .lenErr => 5

/-- The codes of 10_state.md R36. -/
def Sys2Proof.Expect.xactCode : XactState → Nat
  | .idle => 0 | .send => 1 | .wait => 2 | .ok => 3 | .crcFail => 4 | .lenFail => 5 | .retryFail => 6 | .cancelled => 7

/-- The commands that read a register, a status word or a buffer byte (20_memory.md R55). -/
def Sys2Proof.Expect.isRead : Instr → Bool
  | .crcRead | .txbRd _ | .txGetcmd | .txGetseq | .txGetlen | .txStat | .rxbRd _ | .rxStat | .rxGetcmd | .rxGetseq
  | .rxGetlen | .rxGetcrc | .rxGetcalc | .xactStat => true
  | .nop | .reset | .crcInit | .crcByte _ | .txbWr _ _ | .txSetcmd _ | .txSetseq _ | .txSetlen _ | .txStart | .rxFlush
  | .xactStart | .xactCancel | .evRxByte _ | .evTxTake | .evWindowExpire => false

/-! ## Encoding and the step -/

/-- Every instruction's word decodes back to it on its own port and in the shared opcode space, and means nothing on the
other port (30_encoding.md R70, R71, R74-R76, R78). -/
def Obligations.EncodedInstructionsDecodeBack : Prop :=
  ∀ i : Instr, decode i.port (encode i) = some i ∧ decodeWord (encode i) = some i ∧
    ∀ p, p ≠ i.port → decode p (encode i) = none

/-- 30_encoding.md R77: unread fields are ignored; the match is on `OP` alone, through the mask `0xFF000000`. -/
def Obligations.UnreadFieldsAreIgnored : Prop :=
  (∀ p w i, decode p w = some i → ∃ r ∈ opcodeTable, r.port = p ∧ w &&& 0xFF000000#32 = r.pattern ∧
    ∀ w' : Word, w' &&& 0xFF000000#32 = r.pattern →
      (r.format.readsA16 = true → w'.extractLsb' 8 16 = w.extractLsb' 8 16) →
      (r.format.readsD8 = true → w'.extractLsb' 0 8 = w.extractLsb' 0 8) → decode p w' = some i) ∧
  (∀ r ∈ opcodeTable, r.mask = 0xFF000000#32) ∧
  decode .host 0x10FFFFFF#32 = some .crcInit

/-- No word matches two rows of the opcode table, and the words that match one are the ones the decoder takes
(30_encoding.md R74, R75, R78). -/
def Obligations.OpcodeRowsNeverOverlap : Prop :=
  ∀ w : Word, (opcodeTable.filter fun r => w &&& r.mask == r.pattern).length ≤ 1 ∧
    ((decodeWord w).isSome = true ↔ (opcodeTable.filter fun r => w &&& r.mask == r.pattern).length = 1)

/-- The ten encoding examples of 30_encoding.md R92. -/
def Obligations.ExampleWordsDecode : Prop :=
  decode .host 0x00000000#32 = some .nop ∧
  decode .host 0x11000031#32 = some (.crcByte 0x31#8) ∧
  decode .host 0x20000541#32 = some (.txbWr 5#16 0x41#8) ∧
  decode .host 0x24003F00#32 = some (.txSetseq 63#16) ∧
  decode .host 0x26040000#32 = some (.txSetlen 1024#16) ∧
  decode .host 0x31010200#32 = some (.rxbRd 0x0102#16) ∧
  decode .host 0x40000000#32 = some .xactStart ∧
  decode .event 0xF00000A5#32 = some (.evRxByte 0xA5#8) ∧
  decode .event 0xF1000000#32 = some .evTxTake ∧
  decode .event 0xF2000000#32 = some .evWindowExpire

/-- A well-formed assembly line gives `w = (OP << 24) | (A16 << 8) | D8` on its mnemonic's port; any other line is an
assembly error (30_encoding.md R91; the text of a line is left out, notes/assumptions/13.md). -/
def Obligations.AssemblerPacksTheFields : Prop :=
  ∀ l : AsmLine,
    (l.wellFormed = false → assemble l = none) ∧
    (l.wellFormed = true → ∃ r w, rowOf l.mnemonic = some r ∧ assemble l = some ⟨r.port, w⟩ ∧
      w.toNat = r.op.toNat * 2 ^ 24 + (AsmLine.fields r.format l.operands).1 * 2 ^ 8 +
        (AsmLine.fields r.format l.operands).2)

/-- A step takes the next input and runs the instruction its word stands for on its port; with no input it changes
nothing (00_scope.md R12, 30_encoding.md R70, 60_exceptions.md R241; the list of inputs and the step without an input
are the model's, notes/assumptions/1.md and 5.md). -/
def Obligations.StepRunsTheNextInput : Prop :=
  (∀ s x rest i, s.inputs = x :: rest → decode x.port x.word = some i →
    step s = exec i { s with inputs := rest }) ∧
  (∀ s, s.inputs = [] → step s = .next (Expect.silent s))

/-- 44_control.md R212, R213 and 30_encoding.md R78: an undefined host word completes with `EOPC` and changes nothing; an
undefined event word is ignored. -/
def Obligations.UndefinedWordsChangeNothing : Prop :=
  (∀ s w rest, s.inputs = ⟨.host, w⟩ :: rest → w.extractLsb' 24 8 ∉ Expect.hostOpcodes →
    step s = .next (Expect.answered .eopc 0#16 { s with inputs := rest })) ∧
  (∀ s w rest, s.inputs = ⟨.event, w⟩ :: rest → w.extractLsb' 24 8 ∉ [0xF0#8, 0xF1#8, 0xF2#8] →
    step s = .next (Expect.silent { s with inputs := rest }))

/-! ## Reset and control -/

/-- 70_reset_and_hazards.md R250: the state after power-on, its three status words and the buffers' contents. -/
def Obligations.PowerOnState : Prop :=
  let r := State.reset
  (r.crc = 0#16 ∧ r.tx_cmd = 0#8 ∧ r.tx_seq = 0#16 ∧ r.tx_len = 0#16 ∧ r.tx_busy = false ∧ r.tx_pos = 0 ∧ r.tx_crc = 0#16 ∧
    r.rx_state = .hunt ∧ r.rx_pos = 0 ∧ r.rx_cmd = 0#8 ∧ r.rx_seq = 0#16 ∧ r.rx_len = 0#16 ∧ r.rx_crc_rcv = 0#16 ∧
    r.rx_crc_calc = 0#16 ∧ r.rx_ovr = false ∧ r.xact_state = .idle ∧ r.xact_attempts = 0#3) ∧
  (∀ a, Memory.read .txbuf r.txbuf a = Config.bufInit .txbuf a ∧ Memory.read .rxbuf r.rxbuf a = Config.bufInit .rxbuf a) ∧
  exec .txStat r = .next (Expect.answered .ok 0#16 r) ∧
  exec .rxStat r = .next (Expect.answered .ok 0#16 r) ∧
  exec .xactStat r = .next (Expect.answered .ok 0#16 r) ∧
  ∀ x rest, ∃ t, step { r with inputs := x :: rest } = .next t

/-- 44_control.md R211, 70_reset_and_hazards.md R251: `RESET` is accepted in every state, sets every register to its
power-on value, makes the three status words read 0, and keeps both buffers. What becomes of the pending inputs is the
model's (notes/assumptions/10.md) and is left open here. -/
def Obligations.ResetCommandKeepsOnlyTheBuffers : Prop :=
  (∀ s, ∃ t, exec .reset s = .next t ∧
     t = { crc := 0#16, tx_cmd := 0#8, tx_seq := 0#16, tx_len := 0#16, tx_busy := false, tx_pos := 0, tx_crc := 0#16,
           rx_state := .hunt, rx_pos := 0, rx_cmd := 0#8, rx_seq := 0#16, rx_len := 0#16, rx_crc_rcv := 0#16,
           rx_crc_calc := 0#16, rx_ovr := false, xact_state := .idle, xact_attempts := 0#3,
           txbuf := s.txbuf, rxbuf := s.rxbuf, inputs := t.inputs, response := some ⟨.ok, 0#16⟩, emitted := none } ∧
     exec .txStat t = .next (Expect.answered .ok 0#16 t) ∧
     exec .rxStat t = .next (Expect.answered .ok 0#16 t) ∧
     exec .xactStat t = .next (Expect.answered .ok 0#16 t)) ∧
  Expect.hostWord 0x01#8 fun _ _ => .reset

/-- 44_control.md R210: `NOP` answers `(OK, 0)` and changes nothing. -/
def Obligations.NopChangesNothing : Prop :=
  (∀ s, exec .nop s = .next (Expect.answered .ok 0#16 s)) ∧
  Expect.hostWord 0x00#8 fun _ _ => .nop

/-! ## The CRC -/

/-- 40_crc.md R100, R101: the byte step is the 8-pass loop over bit 15, and `crc16` folds it from `0x0000`. -/
def Obligations.CrcIsTheByteLoop : Prop :=
  (∀ c b, crcStep c b =
    (List.range 8).foldl (fun (c : Half) (_ : Nat) => if c.getLsbD 15 = true then (c <<< 1) ^^^ 0x1021#16 else c <<< 1)
      (c ^^^ (b.setWidth 16 <<< 8))) ∧
  crc16 [] = 0x0000#16 ∧
  ∀ bytes b, crc16 (bytes ++ [b]) = crcStep (crc16 bytes) b

/-- The source's check value and the vectors V1-V11 of 95_test_vectors.md. -/
def Obligations.CrcCheckValues : Prop :=
  crc16 [0x31#8, 0x32#8, 0x33#8, 0x34#8, 0x35#8, 0x36#8, 0x37#8, 0x38#8, 0x39#8] = 0x31C3#16 ∧
  crc16 [0x00#8] = 0x0000#16 ∧ crc16 [0x01#8] = 0x1021#16 ∧ crc16 [0x80#8] = 0x9188#16 ∧ crc16 [0xFF#8] = 0x1EF0#16 ∧
  crc16 [0xA5#8] = 0xE54F#16 ∧ crc16 [0x41#8] = 0x58E5#16 ∧ crc16 [0x00#8, 0x00#8] = 0x0000#16 ∧
  crc16 [0xFF#8, 0xFF#8] = 0x1D0F#16 ∧ crc16 [0x10#8, 0x21#8] = 0x3730#16

/-- The step is linear over GF(2), and leading zero bytes do not change a CRC that starts from 0 (40_crc.md R106). -/
def Obligations.CrcStepIsLinear : Prop :=
  (∀ c1 c2 b1 b2, crcStep (c1 ^^^ c2) (b1 ^^^ b2) = crcStep c1 b1 ^^^ crcStep c2 b2) ∧
  (∀ k bytes, crc16 (List.replicate k 0#8 ++ bytes) = crc16 bytes)

/-- The CRC over any bytes followed by their own big-endian CRC is 0, so it is over a frame's `F[1..7+N]`
(40_crc.md R107). -/
def Obligations.CrcResidueIsZero : Prop :=
  (∀ bytes, crc16 (bytes ++ [(crc16 bytes).extractLsb' 8 8, (crc16 bytes).extractLsb' 0 8]) = 0#16) ∧
  ∀ cmd seq payload, crc16 ((frame cmd seq payload).drop 1) = 0#16

/-- 40_crc.md R103, R104, R105: the three commands of the CRC unit, accepted in every state. -/
def Obligations.CrcUnitCommands : Prop :=
  (∀ s,
     exec .crcInit s = .next (Expect.answered .ok 0#16 { s with crc := 0x0000#16 }) ∧
     (∀ b, exec (.crcByte b) s = .next (Expect.answered .ok 0#16 { s with crc := crcStep s.crc b })) ∧
     exec .crcRead s = .next (Expect.answered .ok s.crc s)) ∧
  (Expect.hostWord 0x10#8 fun _ _ => .crcInit) ∧ (Expect.hostWord 0x11#8 fun _ b => .crcByte b) ∧
    Expect.hostWord 0x12#8 fun _ _ => .crcRead

/-- After `CRC_INIT` and any inputs from any agents, none of them `CRC_INIT` or `RESET`, the accumulator is the CRC of
the bytes the `CRC_BYTE` commands among them carried (40_crc.md R108). The list of inputs is the model's
(notes/assumptions/1.md). -/
def Obligations.CrcUnitIsUndisturbed : Prop :=
  ∀ s xs rest, CodecInv s → s.inputs = Instr.crcInit.toInput :: (xs ++ rest) →
    (∀ x ∈ xs, decode x.port x.word ≠ some .crcInit ∧ decode x.port x.word ≠ some .reset) →
    ∃ t, runSteps (xs.length + 1) s = .next t ∧ t.crc = crc16 (crcBytesIn xs) ∧ t.inputs = rest

/-! ## The encoder -/

/-- 41_tx_encoder.md R123: `TXB_WR`. `EBUSY` comes before `EADDR`; a completed write changes one byte of `TXBUF`. -/
def Obligations.TxbWrStoresOneByte : Prop :=
  (∀ a b s,
     (Expect.locked s → exec (.txbWr a b) s = .next (Expect.answered .ebusy 0#16 s)) ∧
     (¬ Expect.locked s → Config.maxLen ≤ a.toNat → exec (.txbWr a b) s = .next (Expect.answered .eaddr 0#16 s)) ∧
     (¬ Expect.locked s → a.toNat < Config.maxLen →
       ∃ m, exec (.txbWr a b) s = .next (Expect.answered .ok 0#16 { s with txbuf := m }) ∧
         Memory.read .txbuf m a.toNat = b ∧
         ∀ k, k ≠ a.toNat → Memory.read .txbuf m k = Memory.read .txbuf s.txbuf k)) ∧
  Expect.hostWord 0x20#8 .txbWr

/-- 41_tx_encoder.md R124, 42_rx_decoder.md R164: the two buffer reads, allowed in every state. -/
def Obligations.BufferReadsReturnTheByte : Prop :=
  (∀ a s,
     (Config.maxLen ≤ a.toNat →
       exec (.txbRd a) s = .next (Expect.answered .eaddr 0#16 s) ∧
       exec (.rxbRd a) s = .next (Expect.answered .eaddr 0#16 s)) ∧
     (a.toNat < Config.maxLen →
       exec (.txbRd a) s = .next (Expect.answered .ok ((Memory.read .txbuf s.txbuf a.toNat).setWidth 16) s) ∧
       exec (.rxbRd a) s = .next (Expect.answered .ok ((Memory.read .rxbuf s.rxbuf a.toNat).setWidth 16) s))) ∧
  (Expect.hostWord 0x21#8 fun a _ => .txbRd a) ∧ Expect.hostWord 0x31#8 fun a _ => .rxbRd a

/-- 41_tx_encoder.md R125, R127, R129: the three configuration writes. -/
def Obligations.TxSettersWriteTheirRegister : Prop :=
  (∀ s,
     (Expect.locked s → (∀ b, exec (.txSetcmd b) s = .next (Expect.answered .ebusy 0#16 s)) ∧
       ∀ v, exec (.txSetseq v) s = .next (Expect.answered .ebusy 0#16 s) ∧
         exec (.txSetlen v) s = .next (Expect.answered .ebusy 0#16 s)) ∧
     (¬ Expect.locked s →
       (∀ b, exec (.txSetcmd b) s = .next (Expect.answered .ok 0#16 { s with tx_cmd := b })) ∧
       (∀ v, exec (.txSetseq v) s = .next (Expect.answered .ok 0#16 { s with tx_seq := v })) ∧
       (∀ v, v.toNat ≤ Config.maxLen → exec (.txSetlen v) s = .next (Expect.answered .ok 0#16 { s with tx_len := v })) ∧
       (∀ v, Config.maxLen < v.toNat → exec (.txSetlen v) s = .next (Expect.answered .elen 0#16 s)))) ∧
  (Expect.hostWord 0x22#8 fun _ b => .txSetcmd b) ∧ (Expect.hostWord 0x24#8 fun v _ => .txSetseq v) ∧
    Expect.hostWord 0x26#8 fun v _ => .txSetlen v

/-- 41_tx_encoder.md R126, R128, R130: the three configuration reads, in every state. -/
def Obligations.TxGettersReturnTheirRegister : Prop :=
  (∀ s,
     exec .txGetcmd s = .next (Expect.answered .ok (s.tx_cmd.setWidth 16) s) ∧
     exec .txGetseq s = .next (Expect.answered .ok s.tx_seq s) ∧
     exec .txGetlen s = .next (Expect.answered .ok s.tx_len s)) ∧
  (Expect.hostWord 0x23#8 fun _ _ => .txGetcmd) ∧ (Expect.hostWord 0x25#8 fun _ _ => .txGetseq) ∧
    Expect.hostWord 0x27#8 fun _ _ => .txGetlen

/-- 41_tx_encoder.md R131: `TX_START` starts a frame at its first byte with a clear CRC, and touches nothing else. -/
def Obligations.TxStartStartsTheEncoder : Prop :=
  (∀ s,
     (Expect.locked s → exec .txStart s = .next (Expect.answered .ebusy 0#16 s)) ∧
     (¬ Expect.locked s →
       exec .txStart s = .next (Expect.answered .ok 0#16 { s with tx_busy := true, tx_pos := 0, tx_crc := 0x0000#16 }) ∧
       ∀ t, exec .txStart s = .next t → exec .txStat t = .next (Expect.answered .ok 0x0003#16 t))) ∧
  Expect.hostWord 0x28#8 fun _ _ => .txStart

/-- 41_tx_encoder.md R122: while locked, the six commands that need the configuration are refused with `EBUSY` and change
nothing; the five reads are never refused for the lock. -/
def Obligations.LockRefusesTheSixCommands : Prop :=
  (∀ s, Expect.locked s → ∀ i,
    ((∃ a b, i = Instr.txbWr a b) ∨ (∃ b, i = .txSetcmd b) ∨ (∃ v, i = .txSetseq v) ∨ (∃ v, i = .txSetlen v) ∨
      i = .txStart ∨ i = .xactStart) → exec i s = .next (Expect.answered .ebusy 0#16 s)) ∧
  (∀ s i, ((∃ a, i = Instr.txbRd a) ∨ i = .txGetcmd ∨ i = .txGetseq ∨ i = .txGetlen ∨ i = .txStat) →
    ∃ rc v, exec i s = .next (Expect.answered rc v s) ∧ rc ≠ .ebusy)

/-- 10_state.md R34, R35, R38 and 41_tx_encoder.md R133, 42_rx_decoder.md R165, 43_transaction.md R186: the three status
words, bit by bit, and that reading them changes nothing. -/
def Obligations.StatusWordLayouts : Prop :=
  (∀ s,
     (∃ w, exec .txStat s = .next (Expect.answered .ok w s) ∧ w.getLsbD 0 = s.tx_busy ∧
       (w.getLsbD 1 = true ↔ Expect.locked s) ∧ ∀ k, 2 ≤ k → w.getLsbD k = false) ∧
     (∃ w, exec .rxStat s = .next (Expect.answered .ok w s) ∧ (w.extractLsb' 0 3).toNat = Expect.rxCode s.rx_state ∧
       w.getLsbD 3 = s.rx_ovr ∧ ∀ k, 4 ≤ k → w.getLsbD k = false) ∧
     (∃ w, exec .xactStat s = .next (Expect.answered .ok w s) ∧ (w.extractLsb' 0 3).toNat = Expect.xactCode s.xact_state ∧
       w.getLsbD 3 = false ∧ w.extractLsb' 4 3 = s.xact_attempts ∧ ∀ k, 7 ≤ k → w.getLsbD k = false)) ∧
  exec .txStat State.reset = .next (Expect.answered .ok 0#16 State.reset) ∧
  exec .rxStat State.reset = .next (Expect.answered .ok 0#16 State.reset) ∧
  exec .xactStat State.reset = .next (Expect.answered .ok 0#16 State.reset) ∧
  (Expect.hostWord 0x29#8 fun _ _ => .txStat) ∧ (Expect.hostWord 0x32#8 fun _ _ => .rxStat) ∧
    Expect.hostWord 0x41#8 fun _ _ => .xactStat

/-- 41_tx_encoder.md R121: the byte offered at each index of the frame, and what `tx_crc` holds when its bytes are next
(while it tracks the bytes sent, `Obligations.TxCrcTracksTheEmittedBytes`). -/
def Obligations.FrameByteByIndex : Prop :=
  ∀ s, s.tx_len.toNat ≤ Config.maxLen →
    frameByte 0 s = .ok 0xA5#8 ∧
    frameByte 1 s = .ok s.tx_cmd ∧
    frameByte 2 s = .ok (s.tx_seq.extractLsb' 8 8) ∧
    frameByte 3 s = .ok (s.tx_seq.extractLsb' 0 8) ∧
    frameByte 4 s = .ok (s.tx_len.extractLsb' 8 8) ∧
    frameByte 5 s = .ok (s.tx_len.extractLsb' 0 8) ∧
    (∀ p, 6 ≤ p → p ≤ 5 + s.tx_len.toNat → frameByte p s = .ok (Memory.read .txbuf s.txbuf (p - 6))) ∧
    frameByte (6 + s.tx_len.toNat) s = .ok (s.tx_crc.extractLsb' 8 8) ∧
    frameByte (7 + s.tx_len.toNat) s = .ok (s.tx_crc.extractLsb' 0 8) ∧
    (TxCrcTracks s → s.tx_busy = true → s.tx_pos = 6 + s.tx_len.toNat → s.tx_crc = crc16 (txCovered s))

/-- 41_tx_encoder.md R135, 43_transaction.md R188: what a take does. The bytes at 1 to `5 + tx_len` enter the CRC; the
last byte makes the encoder idle and opens the window of the transaction that sends. -/
def Obligations.TakeEmitsTheOfferedByte : Prop :=
  ((∀ s, s.tx_busy = false → exec .evTxTake s = .next (Expect.silent s)) ∧
   (∀ s, s.tx_busy = true → s.tx_len.toNat ≤ Config.maxLen → s.tx_pos ≤ s.tx_len.toNat + 7 →
     ∃ b, frameByte s.tx_pos s = .ok b ∧
       exec .evTxTake s = .next
         { s with
           tx_crc := if 1 ≤ s.tx_pos ∧ s.tx_pos ≤ 5 + s.tx_len.toNat then crcStep s.tx_crc b else s.tx_crc
           tx_busy := if s.tx_pos = 7 + s.tx_len.toNat then false else true
           tx_pos := if s.tx_pos = 7 + s.tx_len.toNat then 0 else s.tx_pos + 1
           xact_state := if s.tx_pos = 7 + s.tx_len.toNat ∧ s.xact_state = .send then .wait else s.xact_state
           response := none
           emitted := some b })) ∧
  Expect.eventWord 0xF1#8 fun _ => .evTxTake

/-- 30_encoding.md R80: the layout of a frame, index by index. -/
def Obligations.FrameLayout : Prop :=
  ∀ cmd seq payload, payload.length ≤ 65535 →
    (frame cmd seq payload).length = 8 + payload.length ∧
    (frame cmd seq payload)[0]? = some 0xA5#8 ∧
    (frame cmd seq payload)[1]? = some cmd ∧
    (frame cmd seq payload)[2]? = some (seq.extractLsb' 8 8) ∧
    (frame cmd seq payload)[3]? = some (seq.extractLsb' 0 8) ∧
    (frame cmd seq payload)[4]? = some (BitVec.ofNat 8 (payload.length / 256)) ∧
    (frame cmd seq payload)[5]? = some (BitVec.ofNat 8 (payload.length % 256)) ∧
    (∀ i, i < payload.length → (frame cmd seq payload)[6 + i]? = payload[i]?) ∧
    ∃ c, c = crc16 (((frame cmd seq payload).drop 1).take (5 + payload.length)) ∧
      (frame cmd seq payload)[6 + payload.length]? = some (c.extractLsb' 8 8) ∧
      (frame cmd seq payload)[7 + payload.length]? = some (c.extractLsb' 0 8)

/-- While a frame is emitted, `tx_crc` is the CRC of the covered bytes already taken, whatever inputs arrive: the lock
keeps the configuration unchanged (41_tx_encoder.md R132, R122). -/
def Obligations.TxCrcTracksTheEmittedBytes : Prop :=
  ∀ s t, CodecInv s → TxCrcTracks s → step s = .next t → TxCrcTracks t

/-- A frame started with `TX_START` and taken byte by byte reaches the line whole: exactly `tx_len + 8` bytes, the frame of
30_encoding.md R80 for the configuration, and then the encoder is idle (41_tx_encoder.md R120, R131, R135, R137).
The list of inputs is the model's (notes/assumptions/1.md). -/
def Obligations.TxStartSendsTheWholeFrame : Prop :=
  ∀ s rest, CodecInv s → ¬ Expect.locked s →
    s.inputs = Instr.txStart.toInput :: (takeInputs (s.tx_len.toNat + 8) ++ rest) →
    lineBytes (s.tx_len.toNat + 9) s = requestFrame s ∧
    ∃ t, runSteps (s.tx_len.toNat + 9) s = .next t ∧ t.tx_busy = false ∧ t.tx_pos = 0 ∧ t.inputs = rest ∧
      t.xact_state = s.xact_state

/-! ## The decoder -/

/-- 42_rx_decoder.md R154, R155: in `HUNT`, bytes are discarded until SOF, which clears the header and CRC registers. -/
def Obligations.HuntDiscardsUntilSof : Prop :=
  ∀ s, s.rx_state = .hunt →
    (∀ b, b ≠ 0xA5#8 → exec (.evRxByte b) s = .next (Expect.silent s)) ∧
    exec (.evRxByte 0xA5#8) s = .next (Expect.silent
      { s with rx_state := .header, rx_pos := 0, rx_cmd := 0x00#8, rx_seq := 0x0000#16, rx_len := 0x0000#16,
               rx_crc_rcv := 0x0000#16, rx_crc_calc := 0x0000#16 })

/-- 42_rx_decoder.md R156, R158, 43_transaction.md R195: the five header bytes; the fifth ends in `BODY`, or in `LENERR` when
the length is above `MAX_LEN`, which fails an active transaction. -/
def Obligations.HeaderBytesFillTheRegisters : Prop :=
  ∀ s b, s.rx_state = .header →
    (s.rx_pos = 0 → exec (.evRxByte b) s = .next (Expect.silent
      { s with rx_crc_calc := crcStep s.rx_crc_calc b, rx_cmd := b, rx_pos := 1 })) ∧
    (s.rx_pos = 1 → exec (.evRxByte b) s = .next (Expect.silent
      { s with rx_crc_calc := crcStep s.rx_crc_calc b, rx_seq := b ++ s.rx_seq.extractLsb' 0 8, rx_pos := 2 })) ∧
    (s.rx_pos = 2 → exec (.evRxByte b) s = .next (Expect.silent
      { s with rx_crc_calc := crcStep s.rx_crc_calc b, rx_seq := s.rx_seq.extractLsb' 8 8 ++ b, rx_pos := 3 })) ∧
    (s.rx_pos = 3 → exec (.evRxByte b) s = .next (Expect.silent
      { s with rx_crc_calc := crcStep s.rx_crc_calc b, rx_len := b ++ s.rx_len.extractLsb' 0 8, rx_pos := 4 })) ∧
    (s.rx_pos = 4 → ∀ n : Half, n = s.rx_len.extractLsb' 8 8 ++ b →
      (n.toNat ≤ Config.maxLen → exec (.evRxByte b) s = .next (Expect.silent
        { s with rx_crc_calc := crcStep s.rx_crc_calc b, rx_len := n, rx_state := .body, rx_pos := 0 })) ∧
      (Config.maxLen < n.toNat → ¬ Expect.active s → exec (.evRxByte b) s = .next (Expect.silent
        { s with rx_crc_calc := crcStep s.rx_crc_calc b, rx_len := n, rx_state := .lenErr, rx_pos := 0 })) ∧
      (Config.maxLen < n.toNat → Expect.active s → exec (.evRxByte b) s = .next (Expect.silent
        { s with rx_crc_calc := crcStep s.rx_crc_calc b, rx_len := n, rx_state := .lenErr, rx_pos := 0,
                 xact_state := .lenFail })))

/-- 42_rx_decoder.md R157, R159: payload bytes go to `RXBUF` and into the CRC; the high CRC byte does neither. -/
def Obligations.BodyBytesFillTheBuffer : Prop :=
  ∀ s b, s.rx_state = .body → s.rx_len.toNat ≤ Config.maxLen →
    (s.rx_pos < s.rx_len.toNat →
      ∃ m, exec (.evRxByte b) s = .next (Expect.silent
          { s with rxbuf := m, rx_crc_calc := crcStep s.rx_crc_calc b, rx_pos := s.rx_pos + 1 }) ∧
        Memory.read .rxbuf m s.rx_pos = b ∧
        ∀ k, k ≠ s.rx_pos → Memory.read .rxbuf m k = Memory.read .rxbuf s.rxbuf k) ∧
    (s.rx_pos = s.rx_len.toNat → exec (.evRxByte b) s = .next (Expect.silent
      { s with rx_crc_rcv := b ++ s.rx_crc_rcv.extractLsb' 0 8, rx_pos := s.rx_pos + 1 }))

/-- 42_rx_decoder.md R160, R161 and 43_transaction.md R192, R193, R194: the low CRC byte ends the frame; the CRC is compared
first, then, in an active transaction only, the NAK test and the outcome. -/
def Obligations.LastByteDecidesTheFrame : Prop :=
  ∀ s b, s.rx_state = .body → s.rx_pos = s.rx_len.toNat + 1 → ∀ c : Half, c = s.rx_crc_rcv.extractLsb' 8 8 ++ b →
    (c = s.rx_crc_calc → ¬ Expect.active s → exec (.evRxByte b) s = .next (Expect.silent
      { s with rx_crc_rcv := c, rx_pos := 0, rx_state := .valid })) ∧
    (c ≠ s.rx_crc_calc → ¬ Expect.active s → exec (.evRxByte b) s = .next (Expect.silent
      { s with rx_crc_rcv := c, rx_pos := 0, rx_state := .crcErr })) ∧
    (c = s.rx_crc_calc → Expect.active s → s.rx_cmd ≠ 0xEE#8 → exec (.evRxByte b) s = .next (Expect.silent
      { s with rx_crc_rcv := c, rx_pos := 0, rx_state := .valid, xact_state := .ok })) ∧
    (c = s.rx_crc_calc → Expect.active s → s.rx_cmd = 0xEE#8 → exec (.evRxByte b) s = .next (Expect.silent
      { s with rx_crc_rcv := c, rx_pos := 0, rx_state := .hunt })) ∧
    (c ≠ s.rx_crc_calc → Expect.active s → exec (.evRxByte b) s = .next (Expect.silent
      { s with rx_crc_rcv := c, rx_pos := 0, rx_state := .crcErr, xact_state := .crcFail }))

/-- 42_rx_decoder.md R153: a terminal decoder drops every byte, sets the overrun flag and changes nothing else. -/
def Obligations.TerminalDecoderDropsBytes : Prop :=
  ∀ s b, Expect.ended s → exec (.evRxByte b) s = .next (Expect.silent { s with rx_ovr := true })

/-- `RX_FLUSH` (42_rx_decoder.md R163): refused during a transaction, else the decoder hunts and the overrun flag is clear;
the frame's registers and `RXBUF` keep their values. -/
def Obligations.RxFlushResetsTheDecoder : Prop :=
  (∀ s,
     (Expect.active s → exec .rxFlush s = .next (Expect.answered .ebusy 0#16 s)) ∧
     (¬ Expect.active s → exec .rxFlush s = .next (Expect.answered .ok 0#16
       { s with rx_state := .hunt, rx_pos := 0, rx_ovr := false }))) ∧
  Expect.hostWord 0x30#8 fun _ _ => .rxFlush

/-- 42_rx_decoder.md R166-R170: the five reads of the decoder's registers, in every state. -/
def Obligations.RxGettersReturnTheirRegister : Prop :=
  (∀ s,
     exec .rxGetcmd s = .next (Expect.answered .ok (s.rx_cmd.setWidth 16) s) ∧
     exec .rxGetseq s = .next (Expect.answered .ok s.rx_seq s) ∧
     exec .rxGetlen s = .next (Expect.answered .ok s.rx_len s) ∧
     exec .rxGetcrc s = .next (Expect.answered .ok s.rx_crc_rcv s) ∧
     exec .rxGetcalc s = .next (Expect.answered .ok s.rx_crc_calc s)) ∧
  (Expect.hostWord 0x33#8 fun _ _ => .rxGetcmd) ∧ (Expect.hostWord 0x34#8 fun _ _ => .rxGetseq) ∧
    (Expect.hostWord 0x35#8 fun _ _ => .rxGetlen) ∧ (Expect.hostWord 0x36#8 fun _ _ => .rxGetcrc) ∧
    Expect.hostWord 0x37#8 fun _ _ => .rxGetcalc

/-- Every step keeps what the decoder's registers say of each other: `rx_crc_calc` is the CRC of the bytes received as
the registers and `RXBUF` hold them, and `VALID` means that the CRCs are equal (10_state.md R33, 30_encoding.md R85,
42_rx_decoder.md R160). -/
def Obligations.RxRegistersTrackTheFrame : Prop :=
  ∀ s t, CodecInv s → RxTracks s → step s = .next t → RxTracks t

/-- From `HUNT` with no active transaction, noise without SOF and then a whole frame with any CRC bytes end in `VALID` with
the frame in the registers and in `RXBUF` exactly when the CRC bytes are right, else in `CRCERR`; a header that announces
too much ends in `LENERR` after six bytes (42_rx_decoder.md R171, R158, R154-R160). The list of inputs is the model's
(notes/assumptions/1.md). -/
def Obligations.DecoderAcceptsExactlyTheValidFrames : Prop :=
  (∀ s noise cmd seq payload hi lo rest, s.rx_state = .hunt → ¬ Expect.active s → 0xA5#8 ∉ noise →
    payload.length ≤ Config.maxLen →
    s.inputs = rxInputs (noise ++ 0xA5#8 :: (frameCovered cmd seq payload ++ [hi, lo])) ++ rest →
    ∃ t, runSteps (noise.length + 8 + payload.length) s = .next t ∧ t.inputs = rest ∧
      t.rx_cmd = cmd ∧ t.rx_seq = seq ∧ t.rx_len.toNat = payload.length ∧ t.rx_crc_rcv = hi ++ lo ∧
      (∀ i, i < payload.length → some (Memory.read .rxbuf t.rxbuf i) = payload[i]?) ∧
      (hi ++ lo = crc16 (frameCovered cmd seq payload) → t.rx_state = .valid) ∧
      (hi ++ lo ≠ crc16 (frameCovered cmd seq payload) → t.rx_state = .crcErr)) ∧
  (∀ s noise cmd seq len rest, s.rx_state = .hunt → ¬ Expect.active s → 0xA5#8 ∉ noise → Config.maxLen < len.toNat →
    s.inputs = rxInputs (noise ++ 0xA5#8 :: frameHeader cmd seq len) ++ rest →
    ∃ t, runSteps (noise.length + 6) s = .next t ∧ t.inputs = rest ∧ t.rx_state = .lenErr ∧ t.rx_len = len ∧
      t.rx_cmd = cmd ∧ t.rx_seq = seq ∧ t.rx_crc_calc = crc16 (frameHeader cmd seq len))

/-- A frame held in a terminal decoder state is stable: only `RX_FLUSH`, `XACT_START`, `RESET`, the cancellation of an active
transaction and a retransmission change the decoder's state, its registers or `RXBUF` (70_reset_and_hazards.md R256,
42_rx_decoder.md R150, R153). -/
def Obligations.HeldFrameIsStable : Prop :=
  ∀ i s t, exec i s = .next t → Expect.ended s → i ≠ .rxFlush → i ≠ .xactStart → i ≠ .reset →
    ¬ (i = .xactCancel ∧ Expect.active s) → ¬ (i = .evWindowExpire ∧ s.xact_state = .wait ∧ s.xact_attempts.toNat < 4) →
    t.rx_state = s.rx_state ∧ t.rx_pos = s.rx_pos ∧ t.rx_cmd = s.rx_cmd ∧ t.rx_seq = s.rx_seq ∧ t.rx_len = s.rx_len ∧
      t.rx_crc_rcv = s.rx_crc_rcv ∧ t.rx_crc_calc = s.rx_crc_calc ∧ t.rxbuf = s.rxbuf

/-! ## The controller -/

/-- 43_transaction.md R185: `XACT_START` starts the encoder, makes the decoder fresh and counts the first attempt. -/
def Obligations.XactStartBeginsTheTransaction : Prop :=
  (∀ s,
     (Expect.locked s → exec .xactStart s = .next (Expect.answered .ebusy 0#16 s)) ∧
     (¬ Expect.locked s → exec .xactStart s = .next (Expect.answered .ok 0#16
       { s with xact_state := .send, xact_attempts := 1#3, tx_busy := true, tx_pos := 0, tx_crc := 0x0000#16,
                rx_state := .hunt, rx_pos := 0, rx_ovr := false }) ∧
       ∀ t, exec .xactStart s = .next t → exec .xactStat t = .next (Expect.answered .ok 0x0011#16 t) ∧
         exec .txStat t = .next (Expect.answered .ok 0x0003#16 t) ∧ exec .rxStat t = .next (Expect.answered .ok 0#16 t))) ∧
  Expect.hostWord 0x40#8 fun _ _ => .xactStart

/-- 43_transaction.md R187: `XACT_CANCEL` ends an active transaction and stops the encoder at once; otherwise it changes
nothing; it succeeds either way. -/
def Obligations.XactCancelEndsTheTransaction : Prop :=
  (∀ s,
     (Expect.active s → exec .xactCancel s = .next (Expect.answered .ok 0#16
       { s with xact_state := .cancelled, tx_busy := false, tx_pos := 0, rx_state := .hunt, rx_pos := 0 })) ∧
     (¬ Expect.active s → exec .xactCancel s = .next (Expect.answered .ok 0#16 s))) ∧
  Expect.hostWord 0x42#8 fun _ _ => .xactCancel

/-- 43_transaction.md R189, R190, R191: a window expiry is ignored outside `WAIT`; in `WAIT` it retransmits, or after the
fourth attempt fails the transaction and leaves the decoder alone. -/
def Obligations.WindowExpiryRetriesOrFails : Prop :=
  (∀ s,
     (s.xact_state ≠ .wait → exec .evWindowExpire s = .next (Expect.silent s)) ∧
     (s.xact_state = .wait → s.xact_attempts.toNat < 4 → exec .evWindowExpire s = .next (Expect.silent
       { s with xact_attempts := BitVec.ofNat 3 (s.xact_attempts.toNat + 1), rx_state := .hunt, rx_pos := 0, rx_ovr := false,
                tx_busy := true, tx_pos := 0, tx_crc := 0x0000#16, xact_state := .send })) ∧
     (s.xact_state = .wait → s.xact_attempts.toNat = 4 → exec .evWindowExpire s = .next (Expect.silent
       { s with xact_state := .retryFail }))) ∧
  Expect.eventWord 0xF2#8 fun _ => .evWindowExpire

/-- The complete transition table of `xact_state` (43_transaction.md R199): an input that changes it is one of the rows, with
that row's effects; and in the one row that leaves it unchanged, a valid NAK in an active transaction, the decoder goes back
to `HUNT`. The row of `RETRYFAIL` has "attempts = 4" in every state that meets the invariants, and at least 4 in any other. -/
def Obligations.XactTransitionsAreTheTable : Prop :=
  (∀ i s t, exec i s = .next t → t.xact_state ≠ s.xact_state →
    (i = .xactStart ∧ ¬ Expect.active s ∧ s.tx_busy = false ∧ t.xact_state = .send ∧ t.xact_attempts = 1#3 ∧
      t.tx_busy = true ∧ t.tx_pos = 0 ∧ t.tx_crc = 0#16 ∧ t.rx_state = .hunt ∧ t.rx_pos = 0 ∧ t.rx_ovr = false) ∨
    (i = .evTxTake ∧ s.xact_state = .send ∧ s.tx_busy = true ∧ s.tx_pos = 7 + s.tx_len.toNat ∧ t.xact_state = .wait ∧
      t.tx_busy = false ∧ t.tx_pos = 0) ∨
    (i = .evWindowExpire ∧ s.xact_state = .wait ∧ s.xact_attempts.toNat < 4 ∧ t.xact_state = .send ∧
      t.xact_attempts.toNat = s.xact_attempts.toNat + 1 ∧ t.rx_state = .hunt ∧ t.rx_pos = 0 ∧ t.rx_ovr = false ∧
      t.tx_busy = true ∧ t.tx_pos = 0 ∧ t.tx_crc = 0#16) ∨
    (i = .evWindowExpire ∧ s.xact_state = .wait ∧ 4 ≤ s.xact_attempts.toNat ∧ (CodecInv s → s.xact_attempts = 4#3) ∧
      t.xact_state = .retryFail) ∨
    ((∃ b, i = .evRxByte b) ∧ Expect.active s ∧ ¬ Expect.ended s ∧
      ((t.rx_state = .valid ∧ t.rx_cmd ≠ 0xEE#8 ∧ t.xact_state = .ok) ∨ (t.rx_state = .crcErr ∧ t.xact_state = .crcFail) ∨
        (t.rx_state = .lenErr ∧ t.xact_state = .lenFail))) ∨
    (i = .xactCancel ∧ Expect.active s ∧ t.xact_state = .cancelled ∧ t.tx_busy = false ∧ t.tx_pos = 0 ∧ t.rx_state = .hunt ∧
      t.rx_pos = 0) ∨
    (i = .reset ∧ t.xact_state = .idle ∧ t.xact_attempts = 0#3 ∧ t.crc = 0#16 ∧ t.tx_cmd = 0#8 ∧ t.tx_seq = 0#16 ∧
      t.tx_len = 0#16 ∧ t.tx_busy = false ∧ t.tx_pos = 0 ∧ t.tx_crc = 0#16 ∧ t.rx_state = .hunt ∧ t.rx_pos = 0 ∧
      t.rx_cmd = 0#8 ∧ t.rx_seq = 0#16 ∧ t.rx_len = 0#16 ∧ t.rx_crc_rcv = 0#16 ∧ t.rx_crc_calc = 0#16 ∧ t.rx_ovr = false)) ∧
  (∀ b s, Expect.active s → s.rx_state = .body → s.rx_pos = s.rx_len.toNat + 1 → s.rx_cmd = 0xEE#8 →
    s.rx_crc_rcv.extractLsb' 8 8 ++ b = s.rx_crc_calc →
    ∃ t, exec (.evRxByte b) s = .next t ∧ t.xact_state = s.xact_state ∧ t.xact_attempts = s.xact_attempts ∧
      t.rx_state = .hunt ∧ t.rx_pos = 0)

/-- 43_transaction.md R197: a terminal controller state and its attempt count hold until `XACT_START` or `RESET`. -/
def Obligations.TerminalTransactionsHold : Prop :=
  ∀ i s t, exec i s = .next t →
    (s.xact_state = .ok ∨ s.xact_state = .crcFail ∨ s.xact_state = .lenFail ∨ s.xact_state = .retryFail ∨
      s.xact_state = .cancelled) →
    i ≠ .xactStart → i ≠ .reset → t.xact_state = s.xact_state ∧ t.xact_attempts = s.xact_attempts

/-- A retry happens only on window expiry: nothing else but `XACT_START` and `RESET` changes the attempt count, and an
instruction that starts the encoder is `TX_START`, `XACT_START` or a counted window expiry (43_transaction.md R181). -/
def Obligations.RetriesOnlyOnWindowExpiry : Prop :=
  ∀ i s t, exec i s = .next t →
    (t.xact_attempts ≠ s.xact_attempts →
      (i = .evWindowExpire ∧ s.xact_state = .wait ∧ s.xact_attempts.toNat < 4 ∧
        t.xact_attempts.toNat = s.xact_attempts.toNat + 1) ∨
      (i = .xactStart ∧ t.xact_attempts = 1#3) ∨ (i = .reset ∧ t.xact_attempts = 0#3)) ∧
    (s.tx_busy = false → t.tx_busy = true →
      i = .txStart ∨ i = .xactStart ∨ (i = .evWindowExpire ∧ t.xact_attempts.toNat = s.xact_attempts.toNat + 1))

/-- While the configuration is locked, nothing but `RESET` changes the request: `tx_cmd`, `tx_seq`, `tx_len` and every byte
of `TXBUF` stay, so every retransmission sends the first frame again (20_memory.md R65, 41_tx_encoder.md R122). -/
def Obligations.LockKeepsTheRequest : Prop :=
  ∀ i s t, exec i s = .next t → Expect.locked s → i ≠ .reset →
    t.tx_cmd = s.tx_cmd ∧ t.tx_seq = s.tx_seq ∧ t.tx_len = s.tx_len ∧ t.txbuf = s.txbuf ∧ requestFrame t = requestFrame s

/-- A request that is never answered: `XACT_START`, then four times the whole frame and an expired window. The line carries
the request frame exactly four times and the transaction ends in `RETRYFAIL` with 4 attempts
(43_transaction.md R180, R181, R188-R191). The list of inputs is the model's (notes/assumptions/1.md). -/
def Obligations.UnansweredRequestIsSentFourTimes : Prop :=
  ∀ s rest, CodecInv s → ¬ Expect.locked s →
    s.inputs = Instr.xactStart.toInput ::
      ((List.replicate 4 (takeInputs (s.tx_len.toNat + 8) ++ [Instr.evWindowExpire.toInput])).flatten ++ rest) →
    lineBytes (4 * (s.tx_len.toNat + 9) + 1) s = (List.replicate 4 (requestFrame s)).flatten ∧
    ∃ t, runSteps (4 * (s.tx_len.toNat + 9) + 1) s = .next t ∧ t.xact_state = .retryFail ∧ t.xact_attempts = 4#3 ∧
      t.tx_busy = false ∧ t.inputs = rest

/-- In an open window a valid NAK is dropped without ending or restarting anything, and the valid response after it ends the
transaction in `OK` with the response in the registers (43_transaction.md R183, R192, R193, 30_encoding.md R86).
The list of inputs is the model's (notes/assumptions/1.md). -/
def Obligations.NakIsDroppedThenTheResponseCompletes : Prop :=
  ∀ s seq payload cmd' seq' payload' rest, s.xact_state = .wait → s.rx_state = .hunt →
    payload.length ≤ Config.maxLen → payload'.length ≤ Config.maxLen → cmd' ≠ 0xEE#8 →
    s.inputs = rxInputs (frame 0xEE#8 seq payload) ++ (rxInputs (frame cmd' seq' payload') ++ rest) →
    (∃ u, runSteps (8 + payload.length) s = .next u ∧ u.xact_state = .wait ∧ u.xact_attempts = s.xact_attempts ∧
      u.rx_state = .hunt ∧ u.rx_pos = 0 ∧ u.rx_cmd = 0xEE#8 ∧ u.tx_busy = s.tx_busy) ∧
    ∃ t, runSteps (8 + payload.length + (8 + payload'.length)) s = .next t ∧ t.xact_state = .ok ∧
      t.xact_attempts = s.xact_attempts ∧ t.rx_state = .valid ∧ t.rx_cmd = cmd' ∧ t.rx_seq = seq' ∧
      t.rx_len.toNat = payload'.length ∧ (∀ i, i < payload'.length → some (Memory.read .rxbuf t.rxbuf i) = payload'[i]?) ∧
      t.inputs = rest

/-- When a byte that completes a good response and a window expiry are both pending, the order decides
(60_exceptions.md R233). The list of inputs is the model's (notes/assumptions/1.md). -/
def Obligations.ByteAndExpiryOrderDecides : Prop :=
  ∀ s b rest, s.xact_state = .wait → s.xact_attempts.toNat < 4 → s.rx_state = .body → s.rx_pos = s.rx_len.toNat + 1 →
    s.rx_crc_rcv.extractLsb' 8 8 ++ b = s.rx_crc_calc → s.rx_cmd ≠ 0xEE#8 →
    (s.inputs = (Instr.evRxByte b).toInput :: Instr.evWindowExpire.toInput :: rest →
      ∃ t, runSteps 2 s = .next t ∧ t.xact_state = .ok ∧ t.xact_attempts = s.xact_attempts ∧ t.rx_state = .valid ∧
        t.tx_busy = s.tx_busy ∧ t.inputs = rest) ∧
    (s.inputs = Instr.evWindowExpire.toInput :: (Instr.evRxByte b).toInput :: rest →
      ∃ t, runSteps 2 s = .next t ∧ t.xact_state = .send ∧ t.xact_attempts.toNat = s.xact_attempts.toNat + 1 ∧
        t.rx_state = (if b = 0xA5#8 then .header else .hunt) ∧ t.tx_busy = true ∧ t.inputs = rest)

/-! ## Rules over every instruction -/

/-- 60_exceptions.md R225: a command that returns an error changes no state at all, an undefined command word included. -/
def Obligations.RefusedCommandsChangeNothing : Prop :=
  (∀ i s t r, exec i s = .next t → t.response = some r → r.rc ≠ .ok →
    t = { s with response := some ⟨r.rc, 0x0000#16⟩, emitted := none }) ∧
  (∀ s w rest, s.inputs = ⟨.host, w⟩ :: rest → decode .host w = none →
    step s = .next { s with inputs := rest, response := some ⟨.eopc, 0x0000#16⟩, emitted := none })

/-- A register, status or buffer read changes no state of the block (20_memory.md R55). -/
def Obligations.ReadsHaveNoSideEffect : Prop :=
  ∀ i s, Expect.isRead i = true → ∃ rc v, exec i s = .next (Expect.answered rc v s)

/-- A host command gives one response and no line byte; an event gives no response, and a line byte only when it is a take
while the encoder is busy, the byte being the one offered (30_encoding.md R70, R73, 20_memory.md R60). -/
def Obligations.OutputsFollowThePorts : Prop :=
  ∀ i s t, exec i s = .next t →
    (i.port = .host → (∃ r, t.response = some r) ∧ t.emitted = none) ∧
    (i.port = .event → t.response = none ∧
      ∀ b, t.emitted = some b → i = .evTxTake ∧ s.tx_busy = true ∧ frameByte s.tx_pos s = .ok b)

/-- 60_exceptions.md R220: every host command returns a result code; the codes, and exactly which commands return which. -/
def Obligations.ResultCodesAndTheirCauses : Prop :=
  (ResultCode.ok.code = 0#3 ∧ ResultCode.eopc.code = 1#3 ∧ ResultCode.ebusy.code = 2#3 ∧ ResultCode.eaddr.code = 3#3 ∧
    ResultCode.elen.code = 4#3) ∧
  (∀ i s t, exec i s = .next t → i.port = .host → ∃ r, t.response = some r ∧
    (r.rc ≠ .ok → r.val = 0x0000#16) ∧
    r.rc ≠ .eopc ∧
    (r.rc = .ebusy ↔ ((i = .rxFlush ∧ Expect.active s) ∨ (Expect.locked s ∧ ((∃ a b, i = .txbWr a b) ∨
      (∃ b, i = .txSetcmd b) ∨ (∃ v, i = .txSetseq v) ∨ (∃ v, i = .txSetlen v) ∨ i = .txStart ∨ i = .xactStart)))) ∧
    (r.rc = .eaddr ↔ ∃ a, Config.maxLen ≤ a.toNat ∧
      (((∃ b, i = .txbWr a b) ∧ ¬ Expect.locked s) ∨ i = .txbRd a ∨ i = .rxbRd a)) ∧
    (r.rc = .elen ↔ ∃ v, i = .txSetlen v ∧ Config.maxLen < v.toNat ∧ ¬ Expect.locked s)) ∧
  (∀ s w rest, s.inputs = ⟨.host, w⟩ :: rest → w.extractLsb' 24 8 ∉ Expect.hostOpcodes →
    step s = .next (Expect.answered .eopc 0#16 { s with inputs := rest }))

/-- Which instructions may change which register and which buffer, every one of 10_state.md R41's record (10_state.md R23-R37,
R40; 20_memory.md R50, R51; 40_crc.md R108). The last clause, on the pending inputs, is the model's: they are its list
(notes/assumptions/1.md), and that `RESET` too leaves them is its choice (notes/assumptions/10.md). -/
def Obligations.OnlyTheirInstructionsWriteTheState : Prop :=
  ∀ i s t, exec i s = .next t →
    (t.crc ≠ s.crc → i = .crcInit ∨ (∃ b, i = .crcByte b) ∨ i = .reset) ∧
    (t.tx_cmd ≠ s.tx_cmd → (∃ b, i = .txSetcmd b) ∨ i = .reset) ∧
    (t.tx_seq ≠ s.tx_seq → (∃ v, i = .txSetseq v) ∨ i = .reset) ∧
    (t.tx_len ≠ s.tx_len → (∃ v, i = .txSetlen v) ∨ i = .reset) ∧
    (t.txbuf ≠ s.txbuf → ∃ a b, i = .txbWr a b) ∧
    (t.rxbuf ≠ s.rxbuf → ∃ b, i = .evRxByte b) ∧
    (t.rx_cmd ≠ s.rx_cmd ∨ t.rx_seq ≠ s.rx_seq ∨ t.rx_len ≠ s.rx_len ∨ t.rx_crc_rcv ≠ s.rx_crc_rcv ∨
      t.rx_crc_calc ≠ s.rx_crc_calc → (∃ b, i = .evRxByte b) ∨ i = .reset) ∧
    (t.tx_busy ≠ s.tx_busy →
      (t.tx_busy = true ∧ (i = .txStart ∨ i = .xactStart ∨ i = .evWindowExpire)) ∨
        (t.tx_busy = false ∧ (i = .evTxTake ∨ i = .xactCancel ∨ i = .reset))) ∧
    (t.tx_pos ≠ s.tx_pos →
      i = .txStart ∨ i = .xactStart ∨ i = .evTxTake ∨ i = .xactCancel ∨ i = .evWindowExpire ∨ i = .reset) ∧
    (t.tx_crc ≠ s.tx_crc → i = .txStart ∨ i = .xactStart ∨ i = .evTxTake ∨ i = .evWindowExpire ∨ i = .reset) ∧
    (t.rx_state ≠ s.rx_state ∨ t.rx_pos ≠ s.rx_pos →
      (∃ b, i = .evRxByte b) ∨ i = .rxFlush ∨ i = .xactStart ∨ i = .xactCancel ∨ i = .evWindowExpire ∨ i = .reset) ∧
    (t.rx_ovr ≠ s.rx_ovr → (t.rx_ovr = true ∧ ∃ b, i = .evRxByte b) ∨
      (t.rx_ovr = false ∧ (i = .rxFlush ∨ i = .xactStart ∨ i = .evWindowExpire ∨ i = .reset))) ∧
    (t.xact_state ≠ s.xact_state →
      i = .xactStart ∨ i = .evTxTake ∨ i = .evWindowExpire ∨ (∃ b, i = .evRxByte b) ∨ i = .xactCancel ∨ i = .reset) ∧
    (t.xact_attempts ≠ s.xact_attempts → i = .xactStart ∨ i = .evWindowExpire ∨ i = .reset) ∧
    t.inputs = s.inputs

/-- The power-on state meets the invariants (10_state.md R39, R42). -/
def Obligations.PowerOnStateMeetsTheInvariants : Prop :=
  CodecInv State.reset ∧ TxCrcTracks State.reset ∧ RxTracks State.reset

/-- Every step keeps the invariants of 10_state.md R39 and the canonical form of the buffers. -/
def Obligations.StepKeepsTheInvariants : Prop := ∀ s t, CodecInv s → step s = .next t → CodecInv t

/-- A state that meets the invariants never stops: whatever the next input, the step answers a next state
(20_memory.md R55, 60_exceptions.md R234; the faults are the model's, notes/assumptions/7.md). -/
def Obligations.InvariantStatesNeverStop : Prop := ∀ s, CodecInv s → ∃ t, step s = .next t

/-- Two buffers in canonical form with the same contents are the same data (the model's representation,
notes/assumptions/8.md; 20_memory.md R50, R51, R53). -/
def Obligations.EqualBuffersAreEqualData : Prop :=
  ∀ n m m', Memory.wf n m = true → Memory.wf n m' = true →
    (∀ a, a < Config.maxLen → Memory.read n m a = Memory.read n m' a) → m = m'

/-- 70_reset_and_hazards.md R263: when a transaction, a stand-alone reception and a stand-alone transmission have ended.
Of the transmission it says more, from 41_tx_encoder.md R120, R131, R135 and 44_control.md R211: whatever is interleaved,
it has ended exactly after its `tx_len + 8` takes, or after a `RESET`, which truncates it; and a refused `TX_START` starts
none. That the end is said over a run of the list of inputs is the model's (notes/assumptions/1.md and 16.md). -/
def Obligations.EndsOfRunsAreTheTerminalStates : Prop :=
  (∀ s, transactionEnded s = true ↔ s.xact_state = .ok ∨ s.xact_state = .crcFail ∨ s.xact_state = .lenFail ∨
    s.xact_state = .retryFail ∨ s.xact_state = .cancelled) ∧
  (∀ s, receptionEnded s = true ↔ Expect.ended s) ∧
  (∀ n s, transmissionEnded n s = true ↔
    (∃ x rest, s.inputs = x :: rest ∧ decode x.port x.word = some .txStart) ∧ ¬ Expect.locked s ∧
      ∃ k, k ≤ n ∧ ∃ t, runSteps (k + 1) s = .next t ∧ t.tx_busy = false) ∧
  ∀ s xs rest, CodecInv s → ¬ Expect.locked s → s.inputs = Instr.txStart.toInput :: (xs ++ rest) →
    (transmissionEnded xs.length s = true ↔
      (∃ x ∈ xs, decode x.port x.word = some .reset) ∨
        s.tx_len.toNat + 8 ≤ (xs.filter fun x => decode x.port x.word = some .evTxTake).length)
end

