-- ==== Sys2Proof/Laws/Config.lean ====
section
/-! SUPPORT. What is known of the parameters: the range of `MAX_LEN` (00_scope.md R9). -/

namespace Sys2Proof

theorem Config.maxLen_ge : 1024 ≤ Config.maxLen := by unfold Config.maxLen; omega

theorem Config.maxLen_le : Config.maxLen ≤ 65535 := by
  unfold Config.maxLen
  have := Config.maxLenAbove1024.isLt
  omega

end Sys2Proof
end

