-- ==== Sys2Proof/Laws/Decode.lean ====
section
/-! SUPPORT. The three fields of a packed word (30_encoding.md R71). -/

namespace Sys2Proof

@[simp] theorem opField_packWord (op : Byte) (a : Half) (d : Byte) : opField (packWord op a d) = op := by
  unfold opField packWord
  ext i hi
  have h1 : d.getLsbD (24 + i) = false := BitVec.getLsbD_of_ge _ _ (by omega)
  have h2 : a.getLsbD (24 + i - 8) = false := BitVec.getLsbD_of_ge _ _ (by omega)
  have h3 : ¬ 24 + i < 24 := by omega
  have h4 : 24 + i < 32 := by omega
  simp [h1, h2, h3, h4, BitVec.getLsbD_eq_getElem hi]

@[simp] theorem a16Field_packWord (op : Byte) (a : Half) (d : Byte) : a16Field (packWord op a d) = a := by
  unfold a16Field packWord
  ext i hi
  have h2 : 8 + i < 24 := by omega
  have h3 : 8 + i < 32 := by omega
  simp [h2, h3, BitVec.getLsbD_eq_getElem hi]

@[simp] theorem d8Field_packWord (op : Byte) (a : Half) (d : Byte) : d8Field (packWord op a d) = d := by
  unfold d8Field packWord
  ext i hi
  have h1 : i < 8 := by omega
  have h2 : i < 24 := by omega
  have h3 : i < 32 := by omega
  simp [h1, h2, h3]

end Sys2Proof
end

