-- ==== Sys2Proof/Laws/Flags.lean ====
section
/-! SUPPORT. The derived signals as propositions, one spelling each. -/

namespace Sys2Proof.Machine

@[simp] theorem XactState.active_eq_true (x : XactState) : x.active = true ↔ x = .send ∨ x = .wait := by
  cases x <;> decide

@[simp] theorem XactState.active_eq_false (x : XactState) : x.active = false ↔ x ≠ .send ∧ x ≠ .wait := by
  cases x <;> decide

@[simp] theorem RxState.terminal_eq_true (x : RxState) : x.terminal = true ↔ x = .valid ∨ x = .crcErr ∨ x = .lenErr := by
  cases x <;> decide

@[simp] theorem RxState.terminal_eq_false (x : RxState) : x.terminal = false ↔ x = .hunt ∨ x = .header ∨ x = .body := by
  cases x <;> decide

theorem txLocked_eq_true (s : State) :
    txLocked s = true ↔ s.tx_busy = true ∨ s.xact_state = .send ∨ s.xact_state = .wait := by
  simp [txLocked]

theorem txLocked_eq_false (s : State) :
    txLocked s = false ↔ s.tx_busy = false ∧ s.xact_state ≠ .send ∧ s.xact_state ≠ .wait := by
  simp [txLocked]

/-- The comparison of R189 on the 3-bit count, as a comparison of numbers. -/
theorem attempts_lt_max (a : BitVec 3) : a < maxAttempts ↔ a.toNat < 4 := by
  simp [maxAttempts, BitVec.lt_def]

end Sys2Proof.Machine
end

