-- ==== Sys2Proof/Laws/State.lean ====
section
/-! SUPPORT. For each shared update of the state, one lemma per field: what the field holds afterwards. Later proofs use
these and do not unfold a record update. -/

namespace Sys2Proof.Machine

/-! `respondState` -/

@[simp] theorem respondState_crc (rc : ResultCode) (v : Half) (s : State) : (respondState rc v s).crc = s.crc := rfl
@[simp] theorem respondState_tx_cmd (rc : ResultCode) (v : Half) (s : State) : (respondState rc v s).tx_cmd = s.tx_cmd := rfl
@[simp] theorem respondState_tx_seq (rc : ResultCode) (v : Half) (s : State) : (respondState rc v s).tx_seq = s.tx_seq := rfl
@[simp] theorem respondState_tx_len (rc : ResultCode) (v : Half) (s : State) : (respondState rc v s).tx_len = s.tx_len := rfl
@[simp] theorem respondState_tx_busy (rc : ResultCode) (v : Half) (s : State) : (respondState rc v s).tx_busy = s.tx_busy := rfl
@[simp] theorem respondState_tx_pos (rc : ResultCode) (v : Half) (s : State) : (respondState rc v s).tx_pos = s.tx_pos := rfl
@[simp] theorem respondState_tx_crc (rc : ResultCode) (v : Half) (s : State) : (respondState rc v s).tx_crc = s.tx_crc := rfl
@[simp] theorem respondState_rx_state (rc : ResultCode) (v : Half) (s : State) : (respondState rc v s).rx_state = s.rx_state := rfl
@[simp] theorem respondState_rx_pos (rc : ResultCode) (v : Half) (s : State) : (respondState rc v s).rx_pos = s.rx_pos := rfl
@[simp] theorem respondState_rx_cmd (rc : ResultCode) (v : Half) (s : State) : (respondState rc v s).rx_cmd = s.rx_cmd := rfl
@[simp] theorem respondState_rx_seq (rc : ResultCode) (v : Half) (s : State) : (respondState rc v s).rx_seq = s.rx_seq := rfl
@[simp] theorem respondState_rx_len (rc : ResultCode) (v : Half) (s : State) : (respondState rc v s).rx_len = s.rx_len := rfl
@[simp] theorem respondState_rx_crc_rcv (rc : ResultCode) (v : Half) (s : State) : (respondState rc v s).rx_crc_rcv = s.rx_crc_rcv := rfl
@[simp] theorem respondState_rx_crc_calc (rc : ResultCode) (v : Half) (s : State) : (respondState rc v s).rx_crc_calc = s.rx_crc_calc := rfl
@[simp] theorem respondState_rx_ovr (rc : ResultCode) (v : Half) (s : State) : (respondState rc v s).rx_ovr = s.rx_ovr := rfl
@[simp] theorem respondState_xact_state (rc : ResultCode) (v : Half) (s : State) : (respondState rc v s).xact_state = s.xact_state := rfl
@[simp] theorem respondState_xact_attempts (rc : ResultCode) (v : Half) (s : State) : (respondState rc v s).xact_attempts = s.xact_attempts := rfl
@[simp] theorem respondState_txbuf (rc : ResultCode) (v : Half) (s : State) : (respondState rc v s).txbuf = s.txbuf := rfl
@[simp] theorem respondState_rxbuf (rc : ResultCode) (v : Half) (s : State) : (respondState rc v s).rxbuf = s.rxbuf := rfl
@[simp] theorem respondState_inputs (rc : ResultCode) (v : Half) (s : State) : (respondState rc v s).inputs = s.inputs := rfl
@[simp] theorem respondState_response (rc : ResultCode) (v : Half) (s : State) : (respondState rc v s).response = some ⟨rc, v⟩ := rfl
@[simp] theorem respondState_emitted (rc : ResultCode) (v : Half) (s : State) : (respondState rc v s).emitted = none := rfl

/-! `quiet` -/

@[simp] theorem quiet_crc (s : State) : (quiet s).crc = s.crc := rfl
@[simp] theorem quiet_tx_cmd (s : State) : (quiet s).tx_cmd = s.tx_cmd := rfl
@[simp] theorem quiet_tx_seq (s : State) : (quiet s).tx_seq = s.tx_seq := rfl
@[simp] theorem quiet_tx_len (s : State) : (quiet s).tx_len = s.tx_len := rfl
@[simp] theorem quiet_tx_busy (s : State) : (quiet s).tx_busy = s.tx_busy := rfl
@[simp] theorem quiet_tx_pos (s : State) : (quiet s).tx_pos = s.tx_pos := rfl
@[simp] theorem quiet_tx_crc (s : State) : (quiet s).tx_crc = s.tx_crc := rfl
@[simp] theorem quiet_rx_state (s : State) : (quiet s).rx_state = s.rx_state := rfl
@[simp] theorem quiet_rx_pos (s : State) : (quiet s).rx_pos = s.rx_pos := rfl
@[simp] theorem quiet_rx_cmd (s : State) : (quiet s).rx_cmd = s.rx_cmd := rfl
@[simp] theorem quiet_rx_seq (s : State) : (quiet s).rx_seq = s.rx_seq := rfl
@[simp] theorem quiet_rx_len (s : State) : (quiet s).rx_len = s.rx_len := rfl
@[simp] theorem quiet_rx_crc_rcv (s : State) : (quiet s).rx_crc_rcv = s.rx_crc_rcv := rfl
@[simp] theorem quiet_rx_crc_calc (s : State) : (quiet s).rx_crc_calc = s.rx_crc_calc := rfl
@[simp] theorem quiet_rx_ovr (s : State) : (quiet s).rx_ovr = s.rx_ovr := rfl
@[simp] theorem quiet_xact_state (s : State) : (quiet s).xact_state = s.xact_state := rfl
@[simp] theorem quiet_xact_attempts (s : State) : (quiet s).xact_attempts = s.xact_attempts := rfl
@[simp] theorem quiet_txbuf (s : State) : (quiet s).txbuf = s.txbuf := rfl
@[simp] theorem quiet_rxbuf (s : State) : (quiet s).rxbuf = s.rxbuf := rfl
@[simp] theorem quiet_inputs (s : State) : (quiet s).inputs = s.inputs := rfl
@[simp] theorem quiet_response (s : State) : (quiet s).response = none := rfl
@[simp] theorem quiet_emitted (s : State) : (quiet s).emitted = none := rfl

/-! `emit` -/

@[simp] theorem emit_crc (b : Byte) (s : State) : (emit b s).crc = s.crc := rfl
@[simp] theorem emit_tx_cmd (b : Byte) (s : State) : (emit b s).tx_cmd = s.tx_cmd := rfl
@[simp] theorem emit_tx_seq (b : Byte) (s : State) : (emit b s).tx_seq = s.tx_seq := rfl
@[simp] theorem emit_tx_len (b : Byte) (s : State) : (emit b s).tx_len = s.tx_len := rfl
@[simp] theorem emit_tx_busy (b : Byte) (s : State) : (emit b s).tx_busy = s.tx_busy := rfl
@[simp] theorem emit_tx_pos (b : Byte) (s : State) : (emit b s).tx_pos = s.tx_pos := rfl
@[simp] theorem emit_tx_crc (b : Byte) (s : State) : (emit b s).tx_crc = s.tx_crc := rfl
@[simp] theorem emit_rx_state (b : Byte) (s : State) : (emit b s).rx_state = s.rx_state := rfl
@[simp] theorem emit_rx_pos (b : Byte) (s : State) : (emit b s).rx_pos = s.rx_pos := rfl
@[simp] theorem emit_rx_cmd (b : Byte) (s : State) : (emit b s).rx_cmd = s.rx_cmd := rfl
@[simp] theorem emit_rx_seq (b : Byte) (s : State) : (emit b s).rx_seq = s.rx_seq := rfl
@[simp] theorem emit_rx_len (b : Byte) (s : State) : (emit b s).rx_len = s.rx_len := rfl
@[simp] theorem emit_rx_crc_rcv (b : Byte) (s : State) : (emit b s).rx_crc_rcv = s.rx_crc_rcv := rfl
@[simp] theorem emit_rx_crc_calc (b : Byte) (s : State) : (emit b s).rx_crc_calc = s.rx_crc_calc := rfl
@[simp] theorem emit_rx_ovr (b : Byte) (s : State) : (emit b s).rx_ovr = s.rx_ovr := rfl
@[simp] theorem emit_xact_state (b : Byte) (s : State) : (emit b s).xact_state = s.xact_state := rfl
@[simp] theorem emit_xact_attempts (b : Byte) (s : State) : (emit b s).xact_attempts = s.xact_attempts := rfl
@[simp] theorem emit_txbuf (b : Byte) (s : State) : (emit b s).txbuf = s.txbuf := rfl
@[simp] theorem emit_rxbuf (b : Byte) (s : State) : (emit b s).rxbuf = s.rxbuf := rfl
@[simp] theorem emit_inputs (b : Byte) (s : State) : (emit b s).inputs = s.inputs := rfl
@[simp] theorem emit_response (b : Byte) (s : State) : (emit b s).response = none := rfl
@[simp] theorem emit_emitted (b : Byte) (s : State) : (emit b s).emitted = some b := rfl

/-! `startEncoder` -/

@[simp] theorem startEncoder_crc (s : State) : (startEncoder s).crc = s.crc := rfl
@[simp] theorem startEncoder_tx_cmd (s : State) : (startEncoder s).tx_cmd = s.tx_cmd := rfl
@[simp] theorem startEncoder_tx_seq (s : State) : (startEncoder s).tx_seq = s.tx_seq := rfl
@[simp] theorem startEncoder_tx_len (s : State) : (startEncoder s).tx_len = s.tx_len := rfl
@[simp] theorem startEncoder_tx_busy (s : State) : (startEncoder s).tx_busy = true := rfl
@[simp] theorem startEncoder_tx_pos (s : State) : (startEncoder s).tx_pos = 0 := rfl
@[simp] theorem startEncoder_tx_crc (s : State) : (startEncoder s).tx_crc = 0x0000#16 := rfl
@[simp] theorem startEncoder_rx_state (s : State) : (startEncoder s).rx_state = s.rx_state := rfl
@[simp] theorem startEncoder_rx_pos (s : State) : (startEncoder s).rx_pos = s.rx_pos := rfl
@[simp] theorem startEncoder_rx_cmd (s : State) : (startEncoder s).rx_cmd = s.rx_cmd := rfl
@[simp] theorem startEncoder_rx_seq (s : State) : (startEncoder s).rx_seq = s.rx_seq := rfl
@[simp] theorem startEncoder_rx_len (s : State) : (startEncoder s).rx_len = s.rx_len := rfl
@[simp] theorem startEncoder_rx_crc_rcv (s : State) : (startEncoder s).rx_crc_rcv = s.rx_crc_rcv := rfl
@[simp] theorem startEncoder_rx_crc_calc (s : State) : (startEncoder s).rx_crc_calc = s.rx_crc_calc := rfl
@[simp] theorem startEncoder_rx_ovr (s : State) : (startEncoder s).rx_ovr = s.rx_ovr := rfl
@[simp] theorem startEncoder_xact_state (s : State) : (startEncoder s).xact_state = s.xact_state := rfl
@[simp] theorem startEncoder_xact_attempts (s : State) : (startEncoder s).xact_attempts = s.xact_attempts := rfl
@[simp] theorem startEncoder_txbuf (s : State) : (startEncoder s).txbuf = s.txbuf := rfl
@[simp] theorem startEncoder_rxbuf (s : State) : (startEncoder s).rxbuf = s.rxbuf := rfl
@[simp] theorem startEncoder_inputs (s : State) : (startEncoder s).inputs = s.inputs := rfl
@[simp] theorem startEncoder_response (s : State) : (startEncoder s).response = s.response := rfl
@[simp] theorem startEncoder_emitted (s : State) : (startEncoder s).emitted = s.emitted := rfl

/-! `stopEncoder` -/

@[simp] theorem stopEncoder_crc (s : State) : (stopEncoder s).crc = s.crc := rfl
@[simp] theorem stopEncoder_tx_cmd (s : State) : (stopEncoder s).tx_cmd = s.tx_cmd := rfl
@[simp] theorem stopEncoder_tx_seq (s : State) : (stopEncoder s).tx_seq = s.tx_seq := rfl
@[simp] theorem stopEncoder_tx_len (s : State) : (stopEncoder s).tx_len = s.tx_len := rfl
@[simp] theorem stopEncoder_tx_busy (s : State) : (stopEncoder s).tx_busy = false := rfl
@[simp] theorem stopEncoder_tx_pos (s : State) : (stopEncoder s).tx_pos = 0 := rfl
@[simp] theorem stopEncoder_tx_crc (s : State) : (stopEncoder s).tx_crc = s.tx_crc := rfl
@[simp] theorem stopEncoder_rx_state (s : State) : (stopEncoder s).rx_state = s.rx_state := rfl
@[simp] theorem stopEncoder_rx_pos (s : State) : (stopEncoder s).rx_pos = s.rx_pos := rfl
@[simp] theorem stopEncoder_rx_cmd (s : State) : (stopEncoder s).rx_cmd = s.rx_cmd := rfl
@[simp] theorem stopEncoder_rx_seq (s : State) : (stopEncoder s).rx_seq = s.rx_seq := rfl
@[simp] theorem stopEncoder_rx_len (s : State) : (stopEncoder s).rx_len = s.rx_len := rfl
@[simp] theorem stopEncoder_rx_crc_rcv (s : State) : (stopEncoder s).rx_crc_rcv = s.rx_crc_rcv := rfl
@[simp] theorem stopEncoder_rx_crc_calc (s : State) : (stopEncoder s).rx_crc_calc = s.rx_crc_calc := rfl
@[simp] theorem stopEncoder_rx_ovr (s : State) : (stopEncoder s).rx_ovr = s.rx_ovr := rfl
@[simp] theorem stopEncoder_xact_state (s : State) : (stopEncoder s).xact_state = s.xact_state := rfl
@[simp] theorem stopEncoder_xact_attempts (s : State) : (stopEncoder s).xact_attempts = s.xact_attempts := rfl
@[simp] theorem stopEncoder_txbuf (s : State) : (stopEncoder s).txbuf = s.txbuf := rfl
@[simp] theorem stopEncoder_rxbuf (s : State) : (stopEncoder s).rxbuf = s.rxbuf := rfl
@[simp] theorem stopEncoder_inputs (s : State) : (stopEncoder s).inputs = s.inputs := rfl
@[simp] theorem stopEncoder_response (s : State) : (stopEncoder s).response = s.response := rfl
@[simp] theorem stopEncoder_emitted (s : State) : (stopEncoder s).emitted = s.emitted := rfl

/-! `huntDecoder` -/

@[simp] theorem huntDecoder_crc (s : State) : (huntDecoder s).crc = s.crc := rfl
@[simp] theorem huntDecoder_tx_cmd (s : State) : (huntDecoder s).tx_cmd = s.tx_cmd := rfl
@[simp] theorem huntDecoder_tx_seq (s : State) : (huntDecoder s).tx_seq = s.tx_seq := rfl
@[simp] theorem huntDecoder_tx_len (s : State) : (huntDecoder s).tx_len = s.tx_len := rfl
@[simp] theorem huntDecoder_tx_busy (s : State) : (huntDecoder s).tx_busy = s.tx_busy := rfl
@[simp] theorem huntDecoder_tx_pos (s : State) : (huntDecoder s).tx_pos = s.tx_pos := rfl
@[simp] theorem huntDecoder_tx_crc (s : State) : (huntDecoder s).tx_crc = s.tx_crc := rfl
@[simp] theorem huntDecoder_rx_state (s : State) : (huntDecoder s).rx_state = .hunt := rfl
@[simp] theorem huntDecoder_rx_pos (s : State) : (huntDecoder s).rx_pos = 0 := rfl
@[simp] theorem huntDecoder_rx_cmd (s : State) : (huntDecoder s).rx_cmd = s.rx_cmd := rfl
@[simp] theorem huntDecoder_rx_seq (s : State) : (huntDecoder s).rx_seq = s.rx_seq := rfl
@[simp] theorem huntDecoder_rx_len (s : State) : (huntDecoder s).rx_len = s.rx_len := rfl
@[simp] theorem huntDecoder_rx_crc_rcv (s : State) : (huntDecoder s).rx_crc_rcv = s.rx_crc_rcv := rfl
@[simp] theorem huntDecoder_rx_crc_calc (s : State) : (huntDecoder s).rx_crc_calc = s.rx_crc_calc := rfl
@[simp] theorem huntDecoder_rx_ovr (s : State) : (huntDecoder s).rx_ovr = s.rx_ovr := rfl
@[simp] theorem huntDecoder_xact_state (s : State) : (huntDecoder s).xact_state = s.xact_state := rfl
@[simp] theorem huntDecoder_xact_attempts (s : State) : (huntDecoder s).xact_attempts = s.xact_attempts := rfl
@[simp] theorem huntDecoder_txbuf (s : State) : (huntDecoder s).txbuf = s.txbuf := rfl
@[simp] theorem huntDecoder_rxbuf (s : State) : (huntDecoder s).rxbuf = s.rxbuf := rfl
@[simp] theorem huntDecoder_inputs (s : State) : (huntDecoder s).inputs = s.inputs := rfl
@[simp] theorem huntDecoder_response (s : State) : (huntDecoder s).response = s.response := rfl
@[simp] theorem huntDecoder_emitted (s : State) : (huntDecoder s).emitted = s.emitted := rfl

/-! `flushDecoder` -/

@[simp] theorem flushDecoder_crc (s : State) : (flushDecoder s).crc = s.crc := rfl
@[simp] theorem flushDecoder_tx_cmd (s : State) : (flushDecoder s).tx_cmd = s.tx_cmd := rfl
@[simp] theorem flushDecoder_tx_seq (s : State) : (flushDecoder s).tx_seq = s.tx_seq := rfl
@[simp] theorem flushDecoder_tx_len (s : State) : (flushDecoder s).tx_len = s.tx_len := rfl
@[simp] theorem flushDecoder_tx_busy (s : State) : (flushDecoder s).tx_busy = s.tx_busy := rfl
@[simp] theorem flushDecoder_tx_pos (s : State) : (flushDecoder s).tx_pos = s.tx_pos := rfl
@[simp] theorem flushDecoder_tx_crc (s : State) : (flushDecoder s).tx_crc = s.tx_crc := rfl
@[simp] theorem flushDecoder_rx_state (s : State) : (flushDecoder s).rx_state = .hunt := rfl
@[simp] theorem flushDecoder_rx_pos (s : State) : (flushDecoder s).rx_pos = 0 := rfl
@[simp] theorem flushDecoder_rx_cmd (s : State) : (flushDecoder s).rx_cmd = s.rx_cmd := rfl
@[simp] theorem flushDecoder_rx_seq (s : State) : (flushDecoder s).rx_seq = s.rx_seq := rfl
@[simp] theorem flushDecoder_rx_len (s : State) : (flushDecoder s).rx_len = s.rx_len := rfl
@[simp] theorem flushDecoder_rx_crc_rcv (s : State) : (flushDecoder s).rx_crc_rcv = s.rx_crc_rcv := rfl
@[simp] theorem flushDecoder_rx_crc_calc (s : State) : (flushDecoder s).rx_crc_calc = s.rx_crc_calc := rfl
@[simp] theorem flushDecoder_rx_ovr (s : State) : (flushDecoder s).rx_ovr = false := rfl
@[simp] theorem flushDecoder_xact_state (s : State) : (flushDecoder s).xact_state = s.xact_state := rfl
@[simp] theorem flushDecoder_xact_attempts (s : State) : (flushDecoder s).xact_attempts = s.xact_attempts := rfl
@[simp] theorem flushDecoder_txbuf (s : State) : (flushDecoder s).txbuf = s.txbuf := rfl
@[simp] theorem flushDecoder_rxbuf (s : State) : (flushDecoder s).rxbuf = s.rxbuf := rfl
@[simp] theorem flushDecoder_inputs (s : State) : (flushDecoder s).inputs = s.inputs := rfl
@[simp] theorem flushDecoder_response (s : State) : (flushDecoder s).response = s.response := rfl
@[simp] theorem flushDecoder_emitted (s : State) : (flushDecoder s).emitted = s.emitted := rfl

/-! `resetRegisters` -/

@[simp] theorem resetRegisters_crc (s : State) : (resetRegisters s).crc = 0#16 := rfl
@[simp] theorem resetRegisters_tx_cmd (s : State) : (resetRegisters s).tx_cmd = 0#8 := rfl
@[simp] theorem resetRegisters_tx_seq (s : State) : (resetRegisters s).tx_seq = 0#16 := rfl
@[simp] theorem resetRegisters_tx_len (s : State) : (resetRegisters s).tx_len = 0#16 := rfl
@[simp] theorem resetRegisters_tx_busy (s : State) : (resetRegisters s).tx_busy = false := rfl
@[simp] theorem resetRegisters_tx_pos (s : State) : (resetRegisters s).tx_pos = 0 := rfl
@[simp] theorem resetRegisters_tx_crc (s : State) : (resetRegisters s).tx_crc = 0#16 := rfl
@[simp] theorem resetRegisters_rx_state (s : State) : (resetRegisters s).rx_state = .hunt := rfl
@[simp] theorem resetRegisters_rx_pos (s : State) : (resetRegisters s).rx_pos = 0 := rfl
@[simp] theorem resetRegisters_rx_cmd (s : State) : (resetRegisters s).rx_cmd = 0#8 := rfl
@[simp] theorem resetRegisters_rx_seq (s : State) : (resetRegisters s).rx_seq = 0#16 := rfl
@[simp] theorem resetRegisters_rx_len (s : State) : (resetRegisters s).rx_len = 0#16 := rfl
@[simp] theorem resetRegisters_rx_crc_rcv (s : State) : (resetRegisters s).rx_crc_rcv = 0#16 := rfl
@[simp] theorem resetRegisters_rx_crc_calc (s : State) : (resetRegisters s).rx_crc_calc = 0#16 := rfl
@[simp] theorem resetRegisters_rx_ovr (s : State) : (resetRegisters s).rx_ovr = false := rfl
@[simp] theorem resetRegisters_xact_state (s : State) : (resetRegisters s).xact_state = .idle := rfl
@[simp] theorem resetRegisters_xact_attempts (s : State) : (resetRegisters s).xact_attempts = 0#3 := rfl
@[simp] theorem resetRegisters_txbuf (s : State) : (resetRegisters s).txbuf = s.txbuf := rfl
@[simp] theorem resetRegisters_rxbuf (s : State) : (resetRegisters s).rxbuf = s.rxbuf := rfl
@[simp] theorem resetRegisters_inputs (s : State) : (resetRegisters s).inputs = s.inputs := rfl
@[simp] theorem resetRegisters_response (s : State) : (resetRegisters s).response = s.response := rfl
@[simp] theorem resetRegisters_emitted (s : State) : (resetRegisters s).emitted = s.emitted := rfl

end Sys2Proof.Machine
end

