-- ==== Sys2Proof/Laws/Memory.lean ====
section
/-! SUPPORT. The laws of the payload buffers: a read after a write, and that every memory operation keeps the canonical
form. The callers cite these and never unfold the list. -/

namespace Sys2Proof.Machine

theorem Memory.lookup_insert_same (m : Memory) (a : Nat) (b : Byte) :
    Memory.lookup (Memory.insert m a b) a = some b := by
  induction m with
  | nil => simp [Memory.insert, Memory.lookup]
  | cons e m ih =>
    obtain ⟨k, v⟩ := e
    simp only [Memory.insert]
    split
    · simp [Memory.lookup]
    · split
      · simp [Memory.lookup]
      · rename_i h
        simp [Memory.lookup, h, ih]

theorem Memory.lookup_insert_other (m : Memory) (a k : Nat) (b : Byte) (h : k ≠ a) :
    Memory.lookup (Memory.insert m a b) k = Memory.lookup m k := by
  induction m with
  | nil => simp [Memory.insert, Memory.lookup, h]
  | cons e m ih =>
    obtain ⟨j, v⟩ := e
    simp only [Memory.insert]
    split
    · simp [Memory.lookup, h]
    · split
      · rename_i ha
        subst ha
        simp [Memory.lookup, h]
      · simp [Memory.lookup, ih]

theorem Memory.lookup_erase_same (m : Memory) (a : Nat) : Memory.lookup (Memory.erase m a) a = none := by
  induction m with
  | nil => simp [Memory.erase, Memory.lookup]
  | cons e m ih =>
    obtain ⟨j, v⟩ := e
    simp only [Memory.erase]
    split
    · exact ih
    · rename_i h
      simp [Memory.lookup, h, ih]

theorem Memory.lookup_erase_other (m : Memory) (a k : Nat) (h : k ≠ a) :
    Memory.lookup (Memory.erase m a) k = Memory.lookup m k := by
  induction m with
  | nil => simp [Memory.erase]
  | cons e m ih =>
    obtain ⟨j, v⟩ := e
    simp only [Memory.erase]
    split
    · rename_i ha
      subst ha
      simp [Memory.lookup, h, ih]
    · simp [Memory.lookup, ih]

/-- An empty buffer reads as `BUF_INIT` everywhere. -/
@[simp] theorem Memory.read_nil (n : BufName) (a : Nat) : Memory.read n [] a = Config.bufInit n a := rfl

@[simp] theorem Memory.read_write_same (n : BufName) (m : Memory) (a : Nat) (b : Byte) :
    Memory.read n (Memory.write n m a b) a = b := by
  unfold Memory.read Memory.write
  split_ifs with h
  · rw [Memory.lookup_erase_same]; exact h.symm
  · rw [Memory.lookup_insert_same]

theorem Memory.read_write_other (n : BufName) (m : Memory) (a k : Nat) (b : Byte) (h : k ≠ a) :
    Memory.read n (Memory.write n m a b) k = Memory.read n m k := by
  unfold Memory.read Memory.write
  split_ifs
  · rw [Memory.lookup_erase_other m a k h]
  · rw [Memory.lookup_insert_other m a k b h]

theorem Memory.wfFrom_mono (n : BufName) (m : Memory) {lo hi : Nat} (h : lo ≤ hi)
    (hw : Memory.wfFrom n hi m = true) : Memory.wfFrom n lo m = true := by
  cases m with
  | nil => rfl
  | cons e m =>
    obtain ⟨k, v⟩ := e
    simp only [Memory.wfFrom, Bool.and_eq_true, decide_eq_true_eq] at hw ⊢
    exact ⟨⟨⟨by omega, hw.1.1.2⟩, hw.1.2⟩, hw.2⟩

theorem Memory.insert_wfFrom (n : BufName) (m : Memory) (lo a : Nat) (b : Byte) (hlo : lo ≤ a)
    (ha : a < Config.maxLen) (hb : b ≠ Config.bufInit n a) (hw : Memory.wfFrom n lo m = true) :
    Memory.wfFrom n lo (Memory.insert m a b) = true := by
  induction m generalizing lo with
  | nil => simp [Memory.insert, Memory.wfFrom, hlo, ha, hb]
  | cons e m ih =>
    obtain ⟨k, v⟩ := e
    simp only [Memory.wfFrom, Bool.and_eq_true, decide_eq_true_eq] at hw
    obtain ⟨⟨⟨h1, h2⟩, h3⟩, h4⟩ := hw
    simp only [Memory.insert]
    split_ifs with hlt heq
    · simp only [Memory.wfFrom, Bool.and_eq_true, decide_eq_true_eq]
      exact ⟨⟨⟨hlo, ha⟩, hb⟩, ⟨⟨by omega, h2⟩, h3⟩, h4⟩
    · subst heq
      simp only [Memory.wfFrom, Bool.and_eq_true, decide_eq_true_eq]
      exact ⟨⟨⟨hlo, ha⟩, hb⟩, h4⟩
    · simp only [Memory.wfFrom, Bool.and_eq_true, decide_eq_true_eq]
      exact ⟨⟨⟨h1, h2⟩, h3⟩, ih (k + 1) (by omega) h4⟩

theorem Memory.erase_wfFrom (n : BufName) (m : Memory) (lo a : Nat) (hw : Memory.wfFrom n lo m = true) :
    Memory.wfFrom n lo (Memory.erase m a) = true := by
  induction m generalizing lo with
  | nil => rfl
  | cons e m ih =>
    obtain ⟨k, v⟩ := e
    simp only [Memory.wfFrom, Bool.and_eq_true, decide_eq_true_eq] at hw
    obtain ⟨⟨⟨h1, h2⟩, h3⟩, h4⟩ := hw
    simp only [Memory.erase]
    split_ifs
    · exact Memory.wfFrom_mono n _ (by omega) (ih (k + 1) h4)
    · simp only [Memory.wfFrom, Bool.and_eq_true, decide_eq_true_eq]
      exact ⟨⟨⟨h1, h2⟩, h3⟩, ih (k + 1) h4⟩

/-- Storing a byte at an address that exists keeps the canonical form. -/
theorem Memory.write_wf (n : BufName) (m : Memory) (a : Nat) (b : Byte) (ha : a < Config.maxLen)
    (hw : Memory.wf n m = true) : Memory.wf n (Memory.write n m a b) = true := by
  unfold Memory.write
  split_ifs with h
  · exact Memory.erase_wfFrom n m 0 a hw
  · exact Memory.insert_wfFrom n m 0 a b (by omega) ha h hw

@[simp] theorem Memory.wf_nil (n : BufName) : Memory.wf n [] = true := rfl

/-- Everything `memRead` can do. -/
theorem memRead_ok_iff (n : BufName) (a : Nat) (s : State) (b : Byte) :
    memRead n a s = .ok b ↔ a < Config.maxLen ∧ b = Memory.read n (bufOf n s) a := by
  unfold memRead
  split_ifs with h
  · simp [h, eq_comm]
  · simp [h]

/-- `memRead` at an address that exists. -/
theorem memRead_of_lt (n : BufName) (a : Nat) (s : State) (h : a < Config.maxLen) :
    memRead n a s = .ok (Memory.read n (bufOf n s) a) := by
  simp [memRead, h]

/-- Everything `memWrite` to `TXBUF` can do. -/
theorem memWrite_txbuf_of_lt (a : Nat) (b : Byte) (s : State) (h : a < Config.maxLen) :
    memWrite .txbuf a b s = .ok { s with txbuf := Memory.write .txbuf s.txbuf a b } := by
  simp [memWrite, h]

/-- Everything `memWrite` to `RXBUF` can do. -/
theorem memWrite_rxbuf_of_lt (a : Nat) (b : Byte) (s : State) (h : a < Config.maxLen) :
    memWrite .rxbuf a b s = .ok { s with rxbuf := Memory.write .rxbuf s.rxbuf a b } := by
  simp [memWrite, h]

/-- If `memWrite` answers a state, the address exists and only that byte of that buffer changed. -/
theorem memWrite_ok_cases {n : BufName} {a : Nat} {b : Byte} {s t : State} (h : memWrite n a b s = .ok t) :
    a < Config.maxLen ∧
      ((n = .txbuf ∧ t = { s with txbuf := Memory.write .txbuf s.txbuf a b }) ∨
       (n = .rxbuf ∧ t = { s with rxbuf := Memory.write .rxbuf s.rxbuf a b })) := by
  unfold memWrite at h
  split_ifs at h with ha
  refine ⟨ha, ?_⟩
  cases n
  · exact .inl ⟨rfl, by simpa using h.symm⟩
  · exact .inr ⟨rfl, by simpa using h.symm⟩

end Sys2Proof.Machine
end

