-- ==== Sys2Proof/Laws/Exec.lean ====
section
/-! SUPPORT. For each meaning and each operation under it, one lemma that says everything it can do when it answers a
next state. A later proof cites these and does not unfold the meanings. -/

namespace Sys2Proof.Machine

/-! ## Commands that write -/

theorem execTxbWr_cases {a : Half} {b : Byte} {s t : State} (h : execTxbWr a b s = .next t) :
    (txLocked s = true ∧ t = respondState .ebusy 0#16 s) ∨
    (txLocked s = false ∧ Config.maxLen ≤ a.toNat ∧ t = respondState .eaddr 0#16 s) ∨
    (txLocked s = false ∧ a.toNat < Config.maxLen ∧
      t = respondState .ok 0#16 { s with txbuf := Memory.write .txbuf s.txbuf a.toNat b }) := by
  unfold execTxbWr at h
  split_ifs at h with h1 h2
  · cases h; exact .inl ⟨h1, rfl⟩
  · cases h; exact .inr (.inl ⟨by simpa using h1, h2, rfl⟩)
  · have hlt : a.toNat < Config.maxLen := Nat.lt_of_not_le h2
    rw [addrOf, memWrite_txbuf_of_lt _ _ _ hlt] at h
    cases h
    exact .inr (.inr ⟨by simpa using h1, hlt, rfl⟩)

theorem execTxSetcmd_cases {b : Byte} {s t : State} (h : execTxSetcmd b s = .next t) :
    (txLocked s = true ∧ t = respondState .ebusy 0#16 s) ∨
    (txLocked s = false ∧ t = respondState .ok 0#16 { s with tx_cmd := b }) := by
  unfold execTxSetcmd at h
  split_ifs at h with h1
  · cases h; exact .inl ⟨h1, rfl⟩
  · cases h; exact .inr ⟨by simpa using h1, rfl⟩

theorem execTxSetseq_cases {v : Half} {s t : State} (h : execTxSetseq v s = .next t) :
    (txLocked s = true ∧ t = respondState .ebusy 0#16 s) ∨
    (txLocked s = false ∧ t = respondState .ok 0#16 { s with tx_seq := v }) := by
  unfold execTxSetseq at h
  split_ifs at h with h1
  · cases h; exact .inl ⟨h1, rfl⟩
  · cases h; exact .inr ⟨by simpa using h1, rfl⟩

theorem execTxSetlen_cases {v : Half} {s t : State} (h : execTxSetlen v s = .next t) :
    (txLocked s = true ∧ t = respondState .ebusy 0#16 s) ∨
    (txLocked s = false ∧ Config.maxLen < v.toNat ∧ t = respondState .elen 0#16 s) ∨
    (txLocked s = false ∧ v.toNat ≤ Config.maxLen ∧ t = respondState .ok 0#16 { s with tx_len := v }) := by
  unfold execTxSetlen at h
  split_ifs at h with h1 h2
  · cases h; exact .inl ⟨h1, rfl⟩
  · cases h; exact .inr (.inl ⟨by simpa using h1, h2, rfl⟩)
  · cases h; exact .inr (.inr ⟨by simpa using h1, Nat.le_of_not_lt h2, rfl⟩)

theorem execTxStart_cases {s t : State} (h : execTxStart s = .next t) :
    (txLocked s = true ∧ t = respondState .ebusy 0#16 s) ∨
    (txLocked s = false ∧ t = respondState .ok 0#16 (startEncoder s)) := by
  unfold execTxStart at h
  split_ifs at h with h1
  · cases h; exact .inl ⟨h1, rfl⟩
  · cases h; exact .inr ⟨by simpa using h1, rfl⟩

theorem execRxFlush_cases {s t : State} (h : execRxFlush s = .next t) :
    (s.xact_state.active = true ∧ t = respondState .ebusy 0#16 s) ∨
    (s.xact_state.active = false ∧ t = respondState .ok 0#16 (flushDecoder s)) := by
  unfold execRxFlush at h
  split_ifs at h with h1
  · cases h; exact .inl ⟨h1, rfl⟩
  · cases h; exact .inr ⟨by simpa using h1, rfl⟩

theorem execXactStart_cases {s t : State} (h : execXactStart s = .next t) :
    (txLocked s = true ∧ t = respondState .ebusy 0#16 s) ∨
    (txLocked s = false ∧ t = respondState .ok 0#16 (beginTransaction s)) := by
  unfold execXactStart at h
  split_ifs at h with h1
  · cases h; exact .inl ⟨h1, rfl⟩
  · cases h; exact .inr ⟨by simpa using h1, rfl⟩

theorem execXactCancel_cases {s t : State} (h : execXactCancel s = .next t) :
    (s.xact_state.active = false ∧ t = respondState .ok 0#16 s) ∨
    (s.xact_state.active = true ∧
      t = respondState .ok 0#16 (huntDecoder (stopEncoder { s with xact_state := .cancelled }))) := by
  unfold execXactCancel at h
  split_ifs at h with h1
  · cases h; exact .inr ⟨h1, rfl⟩
  · cases h; exact .inl ⟨by simpa using h1, rfl⟩

/-! ## Reads -/

theorem execTxbRd_cases {a : Half} {s t : State} (h : execTxbRd a s = .next t) :
    (Config.maxLen ≤ a.toNat ∧ t = respondState .eaddr 0#16 s) ∨
    (a.toNat < Config.maxLen ∧ t = respondState .ok (zext16 (Memory.read .txbuf s.txbuf a.toNat)) s) := by
  unfold execTxbRd at h
  split_ifs at h with h1
  · cases h; exact .inl ⟨h1, rfl⟩
  · have hlt : a.toNat < Config.maxLen := Nat.lt_of_not_le h1
    rw [addrOf, memRead_of_lt _ _ _ hlt] at h
    cases h
    exact .inr ⟨hlt, rfl⟩

theorem execRxbRd_cases {a : Half} {s t : State} (h : execRxbRd a s = .next t) :
    (Config.maxLen ≤ a.toNat ∧ t = respondState .eaddr 0#16 s) ∨
    (a.toNat < Config.maxLen ∧ t = respondState .ok (zext16 (Memory.read .rxbuf s.rxbuf a.toNat)) s) := by
  unfold execRxbRd at h
  split_ifs at h with h1
  · cases h; exact .inl ⟨h1, rfl⟩
  · have hlt : a.toNat < Config.maxLen := Nat.lt_of_not_le h1
    rw [addrOf, memRead_of_lt _ _ _ hlt] at h
    cases h
    exact .inr ⟨hlt, rfl⟩

/-! ## The TX line's event -/

/-- The state after the byte `b` at `tx_pos` is taken, in one record. -/
theorem txAdvance_txCrcAfter (b : Byte) (s : State) :
    txAdvance (txCrcAfter b s) =
      { s with
        tx_crc := if 1 ≤ s.tx_pos ∧ s.tx_pos ≤ 5 + s.tx_len.toNat then crcStep s.tx_crc b else s.tx_crc
        tx_busy := if s.tx_pos = 7 + s.tx_len.toNat then false else s.tx_busy
        tx_pos := if s.tx_pos = 7 + s.tx_len.toNat then 0 else s.tx_pos + 1
        xact_state := if s.tx_pos = 7 + s.tx_len.toNat ∧ s.xact_state = .send then .wait else s.xact_state } := by
  unfold txAdvance txCrcAfter openWindow stopEncoder
  by_cases h1 : 1 ≤ s.tx_pos ∧ s.tx_pos ≤ 5 + s.tx_len.toNat <;>
    by_cases h2 : s.tx_pos = 7 + s.tx_len.toNat <;> by_cases h3 : s.xact_state = .send <;> simp [h1, h2, h3]

theorem execEvTxTake_cases {s t : State} (h : execEvTxTake s = .next t) :
    (s.tx_busy = false ∧ t = quiet s) ∨
    (s.tx_busy = true ∧ ∃ b, frameByte s.tx_pos s = .ok b ∧ t = emit b (txAdvance (txCrcAfter b s))) := by
  unfold execEvTxTake at h
  split_ifs at h with h1
  · cases hb : frameByte s.tx_pos s with
    | ok b =>
      rw [hb] at h
      cases h
      exact .inr ⟨h1, b, rfl, rfl⟩
    | error f => rw [hb] at h; cases h
  · cases h; exact .inl ⟨by simpa using h1, rfl⟩

/-- Within the frame and the buffer, the encoder has a byte to offer. -/
theorem frameByte_isOk {p : Nat} {s : State} (hl : s.tx_len.toNat ≤ Config.maxLen) (hp : p ≤ s.tx_len.toNat + 7) :
    ∃ b, frameByte p s = .ok b := by
  unfold frameByte
  split_ifs with h0 h1 h2 h3 h4 h5 h6 h7 h8
  · exact ⟨_, rfl⟩
  · exact ⟨_, rfl⟩
  · exact ⟨_, rfl⟩
  · exact ⟨_, rfl⟩
  · exact ⟨_, rfl⟩
  · exact ⟨_, rfl⟩
  · exact ⟨_, memRead_of_lt _ _ _ (by omega)⟩
  · exact ⟨_, rfl⟩
  · exact ⟨_, rfl⟩
  · omega

/-! ## The window timer's event -/

theorem execEvWindowExpire_cases {s t : State} (h : execEvWindowExpire s = .next t) :
    (s.xact_state ≠ .wait ∧ t = quiet s) ∨
    (s.xact_state = .wait ∧ s.xact_attempts.toNat < 4 ∧ t = quiet (retransmit s)) ∨
    (s.xact_state = .wait ∧ 4 ≤ s.xact_attempts.toNat ∧ t = quiet { s with xact_state := .retryFail }) := by
  unfold execEvWindowExpire at h
  split_ifs at h with h1 h2
  · cases h; exact .inr (.inl ⟨h1, (attempts_lt_max _).1 h2, rfl⟩)
  · cases h; exact .inr (.inr ⟨h1, Nat.le_of_not_lt fun hlt => h2 ((attempts_lt_max _).2 hlt), rfl⟩)
  · cases h; exact .inl ⟨h1, rfl⟩

/-! ## The RX line's event -/

theorem rxHunt_cases (b : Byte) (s : State) :
    (b ≠ sof ∧ rxHunt b s = s) ∨
    (b = sof ∧ rxHunt b s =
      { s with rx_state := .header, rx_pos := 0, rx_cmd := 0#8, rx_seq := 0#16, rx_len := 0#16, rx_crc_rcv := 0#16,
               rx_crc_calc := crcInitial }) := by
  unfold rxHunt
  split_ifs with h
  · exact .inr ⟨h, rfl⟩
  · exact .inl ⟨h, rfl⟩

theorem rxCheckLen_cases (s : State) :
    (Config.maxLen < s.rx_len.toNat ∧ rxCheckLen s = { s with rx_state := .lenErr, rx_pos := 0 }) ∨
    (s.rx_len.toNat ≤ Config.maxLen ∧ rxCheckLen s = { s with rx_state := .body, rx_pos := 0 }) := by
  unfold rxCheckLen
  split_ifs with h
  · exact .inl ⟨h, rfl⟩
  · exact .inr ⟨Nat.le_of_not_lt h, rfl⟩

theorem rxHeader_cases {b : Byte} {s t : State} (h : rxHeader b s = .ok t) :
    (s.rx_pos = 0 ∧ t = { s with rx_crc_calc := crcStep s.rx_crc_calc b, rx_cmd := b, rx_pos := 1 }) ∨
    (s.rx_pos = 1 ∧ t = { s with rx_crc_calc := crcStep s.rx_crc_calc b, rx_seq := setHi s.rx_seq b, rx_pos := 2 }) ∨
    (s.rx_pos = 2 ∧ t = { s with rx_crc_calc := crcStep s.rx_crc_calc b, rx_seq := setLo s.rx_seq b, rx_pos := 3 }) ∨
    (s.rx_pos = 3 ∧ t = { s with rx_crc_calc := crcStep s.rx_crc_calc b, rx_len := setHi s.rx_len b, rx_pos := 4 }) ∨
    (s.rx_pos = 4 ∧
      t = rxCheckLen { s with rx_crc_calc := crcStep s.rx_crc_calc b, rx_len := setLo s.rx_len b }) := by
  unfold rxHeader at h
  dsimp only at h
  split at h
  · rename_i hp; cases h; exact .inl ⟨hp, rfl⟩
  · rename_i hp; cases h; exact .inr (.inl ⟨hp, rfl⟩)
  · rename_i hp; cases h; exact .inr (.inr (.inl ⟨hp, rfl⟩))
  · rename_i hp; cases h; exact .inr (.inr (.inr (.inl ⟨hp, rfl⟩)))
  · rename_i hp; cases h; exact .inr (.inr (.inr (.inr ⟨hp, rfl⟩)))
  · cases h

theorem rxPayload_cases {b : Byte} {s t : State} (h : rxPayload b s = .ok t) :
    s.rx_pos < Config.maxLen ∧
      t = { s with
        rxbuf := Memory.write .rxbuf s.rxbuf s.rx_pos b
        rx_crc_calc := crcStep s.rx_crc_calc b
        rx_pos := s.rx_pos + 1 } := by
  unfold rxPayload at h
  by_cases hlt : s.rx_pos < Config.maxLen
  · rw [memWrite_rxbuf_of_lt _ _ _ hlt] at h
    cases h
    exact ⟨hlt, rfl⟩
  · simp [memWrite, hlt] at h

theorem rxBody_cases {b : Byte} {s t : State} (h : rxBody b s = .ok t) :
    (s.rx_pos < s.rx_len.toNat ∧ s.rx_pos < Config.maxLen ∧
      t = { s with
        rxbuf := Memory.write .rxbuf s.rxbuf s.rx_pos b
        rx_crc_calc := crcStep s.rx_crc_calc b
        rx_pos := s.rx_pos + 1 }) ∨
    (s.rx_pos = s.rx_len.toNat ∧ t = rxCrcHi b s) ∨
    (s.rx_pos = s.rx_len.toNat + 1 ∧ t = rxCrcLo b s) := by
  unfold rxBody at h
  split_ifs at h with h1 h2 h3
  · obtain ⟨hlt, ht⟩ := rxPayload_cases h
    exact .inl ⟨h1, hlt, ht⟩
  · cases h; exact .inr (.inl ⟨h2, rfl⟩)
  · cases h; exact .inr (.inr ⟨h3, rfl⟩)

/-- The receive state machine's step, by the state it starts in. -/
theorem rxByte_cases {b : Byte} {s t : State} (h : rxByte b s = .ok t) :
    (s.rx_state = .hunt ∧ t = rxHunt b s) ∨ (s.rx_state = .header ∧ rxHeader b s = .ok t) ∨
    (s.rx_state = .body ∧ rxBody b s = .ok t) ∨
    (s.rx_state.terminal = true ∧ t = { s with rx_ovr := true }) := by
  unfold rxByte at h
  split at h
  · rename_i hs; cases h; exact .inl ⟨hs, rfl⟩
  · rename_i hs; exact .inr (.inl ⟨hs, h⟩)
  · rename_i hs; exact .inr (.inr (.inl ⟨hs, h⟩))
  all_goals
    rename_i hs
    cases h
    exact .inr (.inr (.inr ⟨by simp [hs], rfl⟩))

/-- What the receive state machine leaves alone: everything but the decoder's own state. -/
theorem rxByte_frame {b : Byte} {s t : State} (h : rxByte b s = .ok t) :
    t.crc = s.crc ∧ t.tx_cmd = s.tx_cmd ∧ t.tx_seq = s.tx_seq ∧ t.tx_len = s.tx_len ∧ t.tx_busy = s.tx_busy ∧
      t.tx_pos = s.tx_pos ∧ t.tx_crc = s.tx_crc ∧ t.xact_state = s.xact_state ∧ t.xact_attempts = s.xact_attempts ∧
      t.txbuf = s.txbuf ∧ t.inputs = s.inputs := by
  rcases rxByte_cases h with ⟨_, rfl⟩ | ⟨_, h⟩ | ⟨_, h⟩ | ⟨_, rfl⟩
  · unfold rxHunt; split_ifs <;> simp
  · rcases rxHeader_cases h with ⟨_, rfl⟩ | ⟨_, rfl⟩ | ⟨_, rfl⟩ | ⟨_, rfl⟩ | ⟨_, rfl⟩
    · simp
    · simp
    · simp
    · simp
    · unfold rxCheckLen; split_ifs <;> simp
  · rcases rxBody_cases h with ⟨_, _, rfl⟩ | ⟨_, rfl⟩ | ⟨_, rfl⟩
    · simp
    · simp [rxCrcHi]
    · simp [rxCrcLo]
  · simp

/-- Everything the controller's hook can do. -/
theorem controllerHook_cases (before : RxState) (s : State) :
    controllerHook before s = s ∨
    (before.terminal = false ∧ s.xact_state.active = true ∧
      ((s.rx_state = .valid ∧ s.rx_cmd = nakCmd ∧ controllerHook before s = huntDecoder s) ∨
       (s.rx_state = .valid ∧ s.rx_cmd ≠ nakCmd ∧ controllerHook before s = { s with xact_state := .ok }) ∨
       (s.rx_state = .crcErr ∧ controllerHook before s = { s with xact_state := .crcFail }) ∨
       (s.rx_state = .lenErr ∧ controllerHook before s = { s with xact_state := .lenFail }))) := by
  unfold controllerHook
  split_ifs with h
  · obtain ⟨h1, h2, h3⟩ := h
    right
    refine ⟨h1, h3, ?_⟩
    rw [RxState.terminal_eq_true] at h2
    unfold frameCompleted
    rcases h2 with h2 | h2 | h2
    · by_cases hn : s.rx_cmd = nakCmd <;> simp [h2, hn]
    · simp [h2]
    · simp [h2]
  · exact .inl rfl

theorem execEvRxByte_cases {b : Byte} {s t : State} (h : execEvRxByte b s = .next t) :
    ∃ u, rxByte b s = .ok u ∧ t = quiet (controllerHook s.rx_state u) := by
  unfold execEvRxByte at h
  cases hu : rxByte b s with
  | ok u => rw [hu] at h; cases h; exact ⟨u, rfl, rfl⟩
  | error f => rw [hu] at h; cases h

/-! ## The step -/

/-- Everything a step can do: nothing without an input, else the decoded instruction, or the answer to an undefined
word. -/
theorem step_cases {s t : State} (h : step s = .next t) :
    (s.inputs = [] ∧ t = quiet s) ∨
    ∃ x rest, s.inputs = x :: rest ∧
      ((∃ i, decode x.port x.word = some i ∧ exec i { s with inputs := rest } = .next t) ∨
       (decode x.port x.word = none ∧ x.port = .host ∧ t = respondState .eopc 0#16 { s with inputs := rest }) ∨
       (decode x.port x.word = none ∧ x.port = .event ∧ t = quiet { s with inputs := rest })) := by
  unfold step takeInput at h
  cases hs : s.inputs with
  | nil =>
    rw [hs] at h
    cases h
    exact .inl ⟨rfl, rfl⟩
  | cons x rest =>
    rw [hs] at h
    refine .inr ⟨x, rest, rfl, ?_⟩
    dsimp only at h
    cases hd : decode x.port x.word with
    | some i => rw [hd] at h; exact .inl ⟨i, rfl, h⟩
    | none =>
      rw [hd] at h
      cases hp : x.port with
      | host => rw [hp] at h; cases h; exact .inr (.inl ⟨rfl, rfl, rfl⟩)
      | event => rw [hp] at h; cases h; exact .inr (.inr ⟨rfl, rfl, rfl⟩)

end Sys2Proof.Machine
end

