-- ==== Sys2Proof/Laws/Operands.lean ====
section
/-! SUPPORT. The two halves of a 16-bit value (20_memory.md R56): writing one half and reading either back. -/

namespace Sys2Proof.Machine

theorem getLsbD_append_bytes (x y : Byte) (i : Nat) :
    (x ++ y : Half).getLsbD i = if i < 8 then y.getLsbD i else x.getLsbD (i - 8) :=
  BitVec.getLsbD_append

@[simp] theorem hiByte_append (x y : Byte) : hiByte (x ++ y) = x := by
  unfold hiByte
  ext i hi
  rw [BitVec.getElem_extractLsb', getLsbD_append_bytes, if_neg (by omega), ← BitVec.getLsbD_eq_getElem hi]
  congr 1
  omega

@[simp] theorem loByte_append (x y : Byte) : loByte (x ++ y) = y := by
  unfold loByte
  ext i hi
  rw [BitVec.getElem_extractLsb', getLsbD_append_bytes, if_pos (by omega), ← BitVec.getLsbD_eq_getElem hi]
  congr 1
  omega

@[simp] theorem append_hiByte_loByte (v : Half) : (hiByte v ++ loByte v : Half) = v := by
  unfold hiByte loByte
  ext i hi
  rw [← BitVec.getLsbD_eq_getElem hi, getLsbD_append_bytes]
  split
  · rename_i h
    simp [h, BitVec.getLsbD_eq_getElem hi]
  · rename_i h
    have h1 : 8 + (i - 8) = i := by omega
    have h2 : i - 8 < 8 := by omega
    simp [h1, h2, BitVec.getLsbD_eq_getElem hi]

@[simp] theorem hiByte_setHi (v : Half) (b : Byte) : hiByte (setHi v b) = b := hiByte_append _ _

@[simp] theorem loByte_setHi (v : Half) (b : Byte) : loByte (setHi v b) = loByte v := loByte_append _ _

@[simp] theorem hiByte_setLo (v : Half) (b : Byte) : hiByte (setLo v b) = hiByte v := hiByte_append _ _

@[simp] theorem loByte_setLo (v : Half) (b : Byte) : loByte (setLo v b) = b := loByte_append _ _

/-- Both halves written, high first, as the decoder receives them. -/
theorem setLo_setHi (v : Half) (hi lo : Byte) : setLo (setHi v hi) lo = hi ++ lo := by
  show hiByte (hi ++ loByte v) ++ lo = hi ++ lo
  rw [hiByte_append]

end Sys2Proof.Machine
end

