-- ==== Sys2Proof/Laws/PerInstr.lean ====
section
/-! SUPPORT. Statements made instruction by instruction. -/

/-- The fields of an instruction's word are its own opcode and operands; it belongs to the port of its row of the opcode
table; and a field that the row's format does not read holds zeros in that word (30_encoding.md R71, R72, R74-R76). -/
def Sys2Proof.Laws.EncodedFields.Statement (i : Sys2Proof.Instr) : Prop :=
  opField (encode i) = i.op ∧ a16Field (encode i) = i.a16 ∧ d8Field (encode i) = i.d8 ∧
    ∃ r ∈ opcodeTable, r.op = i.op ∧ r.port = i.port ∧ i.fitsPort r.port = true ∧
      (r.format.readsA16 = false → i.a16 = 0#16) ∧ (r.format.readsD8 = false → i.d8 = 0#8)

namespace Sys2Proof.Laws.EncodedFields

/-- The fields come from the word's packing; what is left is the instruction's row. -/
theorem of_row {i : Instr} (r : OpRow) (hr : r ∈ opcodeTable) (hop : r.op = i.op) (hp : r.port = i.port)
    (hf : i.fitsPort r.port = true) (ha : r.format.readsA16 = false → i.a16 = 0#16)
    (hd : r.format.readsD8 = false → i.d8 = 0#8) : Statement i :=
  ⟨opField_packWord _ _ _, a16Field_packWord _ _ _, d8Field_packWord _ _ _, r, hr, hop, hp, hf, ha, hd⟩

theorem nop : Statement .nop :=
  of_row ⟨0x00#8, "NOP", .N, .host⟩ (by decide) rfl rfl rfl (fun _ => rfl) (fun _ => rfl)

theorem reset : Statement .reset :=
  of_row ⟨0x01#8, "RESET", .N, .host⟩ (by decide) rfl rfl rfl (fun _ => rfl) (fun _ => rfl)

theorem crcInit : Statement .crcInit :=
  of_row ⟨0x10#8, "CRC_INIT", .N, .host⟩ (by decide) rfl rfl rfl (fun _ => rfl) (fun _ => rfl)

theorem crcByte (b : Byte) : Statement (.crcByte b) :=
  of_row ⟨0x11#8, "CRC_BYTE", .B, .host⟩ (by decide) rfl rfl rfl (fun _ => rfl) (nofun)

theorem crcRead : Statement .crcRead :=
  of_row ⟨0x12#8, "CRC_READ", .N, .host⟩ (by decide) rfl rfl rfl (fun _ => rfl) (fun _ => rfl)

theorem txbWr (a : Half) (b : Byte) : Statement (.txbWr a b) :=
  of_row ⟨0x20#8, "TXB_WR", .AB, .host⟩ (by decide) rfl rfl rfl (nofun) (nofun)

theorem txbRd (a : Half) : Statement (.txbRd a) :=
  of_row ⟨0x21#8, "TXB_RD", .A, .host⟩ (by decide) rfl rfl rfl (nofun) (fun _ => rfl)

theorem txSetcmd (b : Byte) : Statement (.txSetcmd b) :=
  of_row ⟨0x22#8, "TX_SETCMD", .B, .host⟩ (by decide) rfl rfl rfl (fun _ => rfl) (nofun)

theorem txGetcmd : Statement .txGetcmd :=
  of_row ⟨0x23#8, "TX_GETCMD", .N, .host⟩ (by decide) rfl rfl rfl (fun _ => rfl) (fun _ => rfl)

theorem txSetseq (v : Half) : Statement (.txSetseq v) :=
  of_row ⟨0x24#8, "TX_SETSEQ", .H, .host⟩ (by decide) rfl rfl rfl (nofun) (fun _ => rfl)

theorem txGetseq : Statement .txGetseq :=
  of_row ⟨0x25#8, "TX_GETSEQ", .N, .host⟩ (by decide) rfl rfl rfl (fun _ => rfl) (fun _ => rfl)

theorem txSetlen (v : Half) : Statement (.txSetlen v) :=
  of_row ⟨0x26#8, "TX_SETLEN", .H, .host⟩ (by decide) rfl rfl rfl (nofun) (fun _ => rfl)

theorem txGetlen : Statement .txGetlen :=
  of_row ⟨0x27#8, "TX_GETLEN", .N, .host⟩ (by decide) rfl rfl rfl (fun _ => rfl) (fun _ => rfl)

theorem txStart : Statement .txStart :=
  of_row ⟨0x28#8, "TX_START", .N, .host⟩ (by decide) rfl rfl rfl (fun _ => rfl) (fun _ => rfl)

theorem txStat : Statement .txStat :=
  of_row ⟨0x29#8, "TX_STAT", .N, .host⟩ (by decide) rfl rfl rfl (fun _ => rfl) (fun _ => rfl)

theorem rxFlush : Statement .rxFlush :=
  of_row ⟨0x30#8, "RX_FLUSH", .N, .host⟩ (by decide) rfl rfl rfl (fun _ => rfl) (fun _ => rfl)

theorem rxbRd (a : Half) : Statement (.rxbRd a) :=
  of_row ⟨0x31#8, "RXB_RD", .A, .host⟩ (by decide) rfl rfl rfl (nofun) (fun _ => rfl)

theorem rxStat : Statement .rxStat :=
  of_row ⟨0x32#8, "RX_STAT", .N, .host⟩ (by decide) rfl rfl rfl (fun _ => rfl) (fun _ => rfl)

theorem rxGetcmd : Statement .rxGetcmd :=
  of_row ⟨0x33#8, "RX_GETCMD", .N, .host⟩ (by decide) rfl rfl rfl (fun _ => rfl) (fun _ => rfl)

theorem rxGetseq : Statement .rxGetseq :=
  of_row ⟨0x34#8, "RX_GETSEQ", .N, .host⟩ (by decide) rfl rfl rfl (fun _ => rfl) (fun _ => rfl)

theorem rxGetlen : Statement .rxGetlen :=
  of_row ⟨0x35#8, "RX_GETLEN", .N, .host⟩ (by decide) rfl rfl rfl (fun _ => rfl) (fun _ => rfl)

theorem rxGetcrc : Statement .rxGetcrc :=
  of_row ⟨0x36#8, "RX_GETCRC", .N, .host⟩ (by decide) rfl rfl rfl (fun _ => rfl) (fun _ => rfl)

theorem rxGetcalc : Statement .rxGetcalc :=
  of_row ⟨0x37#8, "RX_GETCALC", .N, .host⟩ (by decide) rfl rfl rfl (fun _ => rfl) (fun _ => rfl)

theorem xactStart : Statement .xactStart :=
  of_row ⟨0x40#8, "XACT_START", .N, .host⟩ (by decide) rfl rfl rfl (fun _ => rfl) (fun _ => rfl)

theorem xactStat : Statement .xactStat :=
  of_row ⟨0x41#8, "XACT_STAT", .N, .host⟩ (by decide) rfl rfl rfl (fun _ => rfl) (fun _ => rfl)

theorem xactCancel : Statement .xactCancel :=
  of_row ⟨0x42#8, "XACT_CANCEL", .N, .host⟩ (by decide) rfl rfl rfl (fun _ => rfl) (fun _ => rfl)

theorem evRxByte (b : Byte) : Statement (.evRxByte b) :=
  of_row ⟨0xF0#8, "EV_RX_BYTE", .B, .event⟩ (by decide) rfl rfl rfl (fun _ => rfl) (nofun)

theorem evTxTake : Statement .evTxTake :=
  of_row ⟨0xF1#8, "EV_TX_TAKE", .N, .event⟩ (by decide) rfl rfl rfl (fun _ => rfl) (fun _ => rfl)

theorem evWindowExpire : Statement .evWindowExpire :=
  of_row ⟨0xF2#8, "EV_WINDOW_EXPIRE", .N, .event⟩ (by decide) rfl rfl rfl (fun _ => rfl) (fun _ => rfl)

end Sys2Proof.Laws.EncodedFields
end

