-- ==== Sys2Proof/Laws/Run.lean ====
section
/-! SUPPORT. Runs of several steps, cut at a state they pass through. -/

namespace Sys2Proof.Machine

@[simp] theorem runSteps_zero (s : State) : runSteps 0 s = .next s := rfl

/-- The host's run, one step at a time. -/
theorem core_run_of_step (M : Host.Core) (n : Nat) {s t : M.State} (h : M.step s = .next t) :
    M.run (n + 1) s = M.run n t := by
  rw [Host.Core.run, h]

theorem core_run_first (M : Host.Core) (n : Nat) {s u : M.State} (h : M.run (n + 1) s = .next u) :
    ∃ t, M.step s = .next t ∧ M.run n t = .next u := by
  rw [Host.Core.run] at h
  split at h
  · exact ⟨_, ‹_›, h⟩
  · cases h
  · cases h

/-- One step, then the rest of the run. -/
theorem runSteps_of_step {s t : State} (n : Nat) (h : step s = .next t) : runSteps (n + 1) s = runSteps n t :=
  core_run_of_step Sys2Proof.core n h

theorem lineBytes_of_step {s t : State} (n : Nat) (h : step s = .next t) :
    lineBytes (n + 1) s = t.emitted.toList ++ lineBytes n t := by
  simp [lineBytes, h]

/-- A run that answers takes a first step. -/
theorem runSteps_first {n : Nat} {s u : State} (h : runSteps (n + 1) s = .next u) :
    ∃ t, step s = .next t ∧ runSteps n t = .next u :=
  core_run_first Sys2Proof.core n h

/-- A run is its first part, then the rest from where that ends. -/
theorem runSteps_add {m : Nat} (n : Nat) {s u : State} (h : runSteps m s = .next u) :
    runSteps (m + n) s = runSteps n u := by
  induction m generalizing s with
  | zero => cases h; rw [Nat.zero_add]
  | succ m ih =>
    obtain ⟨t, ht, hu⟩ := runSteps_first h
    rw [Nat.succ_add, runSteps_of_step _ ht, ih hu]

theorem lineBytes_add {m : Nat} (n : Nat) {s u : State} (h : runSteps m s = .next u) :
    lineBytes (m + n) s = lineBytes m s ++ lineBytes n u := by
  induction m generalizing s with
  | zero => cases h; simp [lineBytes]
  | succ m ih =>
    obtain ⟨t, ht, hu⟩ := runSteps_first h
    rw [Nat.succ_add, lineBytes_of_step _ ht, lineBytes_of_step _ ht, ih hu, List.append_assoc]

theorem idleWithin_of_step {s t : State} (n : Nat) (h : step s = .next t) :
    idleWithin (n + 1) s = (!s.tx_busy || idleWithin n t) := by
  simp [idleWithin, h]

/-- An encoder is idle within `n` steps exactly when one of the runs of at most `n` steps ends in a state with an idle
encoder. -/
theorem idleWithin_iff {n : Nat} {s : State} :
    idleWithin n s = true ↔ ∃ k, k ≤ n ∧ ∃ t, runSteps k s = .next t ∧ t.tx_busy = false := by
  induction n generalizing s with
  | zero =>
    constructor
    · intro h; exact ⟨0, Nat.le_refl 0, s, rfl, by simpa [idleWithin] using h⟩
    · rintro ⟨k, hk, t, ht, hb⟩
      obtain rfl := Nat.le_zero.mp hk
      cases ht
      simp [idleWithin, hb]
  | succ n ih =>
    constructor
    · intro h
      by_cases hb : s.tx_busy = false
      · exact ⟨0, Nat.zero_le _, s, rfl, hb⟩
      · cases hs : step s with
        | next t =>
          rw [idleWithin_of_step _ hs] at h
          obtain ⟨k, hk, u, hu, hi⟩ := ih.mp (by simpa [hb] using h)
          exact ⟨k + 1, Nat.succ_le_succ hk, u, by rw [runSteps_of_step _ hs, hu], hi⟩
        | fault f => simp [idleWithin, hs, hb] at h
        | refused r => simp [idleWithin, hs, hb] at h
    · rintro ⟨k, hk, t, ht, hb⟩
      cases k with
      | zero => cases ht; simp [idleWithin, hb]
      | succ k =>
        obtain ⟨u, hu, hr⟩ := runSteps_first ht
        rw [idleWithin_of_step _ hu, ih.mpr ⟨k, Nat.le_of_succ_le_succ hk, t, hr, hb⟩, Bool.or_true]

theorem transmissionEnded_of_step {s t : State} (n : Nat) (h : step s = .next t) :
    transmissionEnded n s = (txStartNext s && idleWithin n t) := by
  simp [transmissionEnded, h]

/-- A stand-alone transmission has ended exactly when its `TX_START` starts it and some later state of the run, at most
`n` steps on, has `tx_busy = 0` (70_reset_and_hazards.md R263). -/
theorem transmissionEnded_iff {n : Nat} {s : State} :
    transmissionEnded n s = true ↔
      txStartNext s = true ∧ ∃ k, k ≤ n ∧ ∃ t, runSteps (k + 1) s = .next t ∧ t.tx_busy = false := by
  cases hs : step s with
  | next t => simp [transmissionEnded_of_step _ hs, idleWithin_iff, runSteps_of_step _ hs]
  | fault f =>
    simp only [transmissionEnded, hs, Bool.and_false, Bool.false_eq_true, false_iff]
    rintro ⟨-, k, -, t, ht, -⟩
    obtain ⟨u, hu, -⟩ := runSteps_first ht
    simp [hs] at hu
  | refused r =>
    simp only [transmissionEnded, hs, Bool.and_false, Bool.false_eq_true, false_iff]
    rintro ⟨-, k, -, t, ht, -⟩
    obtain ⟨u, hu, -⟩ := runSteps_first ht
    simp [hs] at hu

end Sys2Proof.Machine
end

