-- ==== Sys2Proof/Tests/Slice0.lean ====
section
/-! SUPPORT. Tests. The expected values are those of spec/95_test_vectors.md (V and P numbers), of the examples in the
rules, or words written out from 30_encoding.md R71-R75; none is the model's own answer. At the end, for every statement
with hypotheses, a state and operands that meet them. -/

namespace Sys2Proof.Tests

open Sys2Proof.Machine

/-! ## Small states -/

/-- The state an instruction leaves, if it leaves one. -/
def after (i : Instr) (s : State) : Option State :=
  match exec i s with
  | .next t => some t
  | .fault _ => none
  | .refused _ => none

/-- The response an instruction gives, if it gives one. -/
def answer (i : Instr) (s : State) : Option Response := (after i s).bind State.response

/-- After `TX_SETCMD 0x46` and `TX_START` (V46), the next byte to take being `pos` and the CRC so far `c`. -/
def sending (pos : Nat) (c : Half) : State :=
  { State.reset with tx_cmd := 0x46#8, tx_busy := true, tx_pos := pos, tx_crc := c }

/-- The same frame sent by a transaction in its attempt number `n`. -/
def sendingIn (n : BitVec 3) (pos : Nat) (c : Half) : State :=
  { sending pos c with xact_state := .send, xact_attempts := n }

/-- The window of attempt number `n` is open (V61, V68). -/
def waiting (n : BitVec 3) : State :=
  { State.reset with tx_cmd := 0x46#8, tx_crc := 0xDCED#16, xact_state := .wait, xact_attempts := n }

/-- In `HEADER` after SOF and `k` header bytes, with what they left in the registers. -/
def inHeader (k : Nat) (cmd : Byte) (seq len clc : Half) : State :=
  { State.reset with rx_state := .header, rx_pos := k, rx_cmd := cmd, rx_seq := seq, rx_len := len, rx_crc_calc := clc }

/-- Before the last CRC byte of a frame without payload. -/
def beforeLast (cmd : Byte) (rcv clc : Half) : State :=
  { State.reset with rx_state := .body, rx_pos := 1, rx_cmd := cmd, rx_crc_rcv := rcv, rx_crc_calc := clc }

/-- The end state of V50. -/
def received : State :=
  { State.reset with
    rx_state := .valid, rx_cmd := 0x46#8, rx_len := 2#16, rx_crc_rcv := 0x016F#16, rx_crc_calc := 0x016F#16
    rxbuf := [(0, 0x12#8), (1, 0x34#8)] }

/-! ## Assembly lines: one ill-formed line for each check, which the check refuses (R91) -/

theorem test_unknown_mnemonic_refused :
    (AsmLine.mk none "TXB_WRITE" [0, 0]).knownMnemonic = false ∧ assemble ⟨none, "TXB_WRITE", [0, 0]⟩ = none := by decide

theorem test_wrong_port_prefix_refused :
    (AsmLine.mk (some .event) "NOP" []).portAgrees = false ∧ assemble ⟨some .event, "NOP", []⟩ = none := by decide

theorem test_wrong_operand_count_refused :
    (AsmLine.mk none "TXB_WR" [5]).operandCount = false ∧ assemble ⟨none, "TXB_WR", [5]⟩ = none ∧
      assemble ⟨none, "NOP", [0]⟩ = none := by decide

theorem test_operand_outside_field_refused :
    (AsmLine.mk none "CRC_BYTE" [0x100]).operandsFit = false ∧ assemble ⟨none, "CRC_BYTE", [0x100]⟩ = none ∧
      assemble ⟨none, "TX_SETSEQ", [0x10000]⟩ = none ∧ assemble ⟨none, "RXB_RD", [0x10000]⟩ = none ∧
      assemble ⟨none, "TXB_WR", [0x10000, 0]⟩ = none ∧ assemble ⟨none, "TXB_WR", [0, 0x100]⟩ = none := by decide

/-- V27, V28, V31 as lines, the first at the largest operands. -/
theorem test_lines_assemble :
    assemble ⟨none, "TXB_WR", [0xFFFF, 0xFF]⟩ = some ⟨.host, 0x20FFFFFF#32⟩ ∧
      assemble ⟨some .host, "TXB_WR", [5, 0x41]⟩ = some ⟨.host, 0x20000541#32⟩ ∧
      assemble ⟨none, "TX_SETSEQ", [63]⟩ = some ⟨.host, 0x24003F00#32⟩ ∧
      assemble ⟨some .event, "EV_RX_BYTE", [0xA5]⟩ = some ⟨.event, 0xF00000A5#32⟩ := by decide

theorem test_pseudo_instructions_expand :
    (crcBytes [0x31#8, 0x32#8]).map assemble = [some ⟨.host, 0x11000031#32⟩, some ⟨.host, 0x11000032#32⟩] ∧
      (txbFill 4 [0x41#8, 0x42#8]).map assemble = [some ⟨.host, 0x20000441#32⟩, some ⟨.host, 0x20000542#32⟩] ∧
      (evRxBytes [0xA5#8]).map assemble = [some ⟨.event, 0xF00000A5#32⟩] := by decide

theorem test_ports_fit :
    Instr.nop.fitsPort .host = true ∧ Instr.nop.fitsPort .event = false ∧ (Instr.evRxByte 0#8).fitsPort .event = true ∧
      (Instr.evRxByte 0#8).fitsPort .host = false := by decide

/-! ## Words: every constructor, the word written out from R71-R75 -/

theorem test_decode_control_and_crc :
    decodeWord 0x00000000#32 = some .nop ∧ decodeWord 0x01000000#32 = some .reset ∧
      decodeWord 0x10000000#32 = some .crcInit ∧ decodeWord 0x11000031#32 = some (.crcByte 0x31#8) ∧
      decodeWord 0x12000000#32 = some .crcRead := by decide

theorem test_decode_encoder :
    decodeWord 0x20000541#32 = some (.txbWr 5#16 0x41#8) ∧ decodeWord 0x21000500#32 = some (.txbRd 5#16) ∧
      decodeWord 0x22000046#32 = some (.txSetcmd 0x46#8) ∧ decodeWord 0x23000000#32 = some .txGetcmd ∧
      decodeWord 0x24003F00#32 = some (.txSetseq 63#16) ∧ decodeWord 0x25000000#32 = some .txGetseq ∧
      decodeWord 0x26040000#32 = some (.txSetlen 1024#16) ∧ decodeWord 0x27000000#32 = some .txGetlen ∧
      decodeWord 0x28000000#32 = some .txStart ∧ decodeWord 0x29000000#32 = some .txStat := by decide

theorem test_decode_decoder :
    decodeWord 0x30000000#32 = some .rxFlush ∧ decodeWord 0x31010200#32 = some (.rxbRd 0x0102#16) ∧
      decodeWord 0x32000000#32 = some .rxStat ∧ decodeWord 0x33000000#32 = some .rxGetcmd ∧
      decodeWord 0x34000000#32 = some .rxGetseq ∧ decodeWord 0x35000000#32 = some .rxGetlen ∧
      decodeWord 0x36000000#32 = some .rxGetcrc ∧ decodeWord 0x37000000#32 = some .rxGetcalc := by decide

theorem test_decode_transaction_and_events :
    decodeWord 0x40000000#32 = some .xactStart ∧ decodeWord 0x41000000#32 = some .xactStat ∧
      decodeWord 0x42000000#32 = some .xactCancel ∧ decodeWord 0xF00000A5#32 = some (.evRxByte 0xA5#8) ∧
      decodeWord 0xF1000000#32 = some .evTxTake ∧ decodeWord 0xF2000000#32 = some .evWindowExpire := by decide

/-- V32, V33: fields that are not read. -/
theorem test_junk_fields_ignored :
    decode .host 0x11FFFF01#32 = some (.crcByte 0x01#8) ∧ decode .host 0x00FFFFFF#32 = some .nop ∧
      decode .host 0x10FFFFFF#32 = some .crcInit ∧ decode .event 0xF1FFFFFF#32 = some .evTxTake := by decide

/-- R78, R79 at the edges of the undefined ranges, and each port's opcodes on the other port (V39, V44). -/
theorem test_undefined_and_misdirected_words :
    ([0x02000000#32, 0x0F000000#32, 0x13000000#32, 0x1F000000#32, 0x2A000000#32, 0x2F000000#32, 0x38000000#32, 0x3F000000#32,
        0x43000000#32, 0xEF000000#32, 0xF00000A5#32, 0xF1000000#32, 0xF2000000#32, 0xFF000000#32].all
      fun w => decode .host w == none) = true ∧
      ([0x00000000#32, 0x40000000#32, 0xEF000000#32, 0xF3000000#32, 0xFF000000#32].all
        fun w => decode .event w == none) = true := by decide

/-- V24-V31: the encoder's words. -/
theorem test_encode_words :
    encode .nop = 0x00000000#32 ∧ encode .reset = 0x01000000#32 ∧ encode (.crcByte 0x31#8) = 0x11000031#32 ∧
      encode (.txbWr 5#16 0x41#8) = 0x20000541#32 ∧ encode (.txSetseq 63#16) = 0x24003F00#32 ∧
      encode (.txSetlen 1024#16) = 0x26040000#32 ∧ encode (.rxbRd 1#16) = 0x31000100#32 ∧
      encode (.evRxByte 0xA5#8) = 0xF00000A5#32 := by decide

theorem test_decode_table_word :
    decodeTableWord 32 0x22000046 = some (.txSetcmd 0x46#8) ∧ decodeTableWord 32 0xF2000000 = some .evWindowExpire ∧
      decodeTableWord 32 0x13000000 = none := by decide

/-! ## CRC and frames -/

/-- The running values of V1 at its second and last byte. -/
theorem test_crc_running_values : crcStep 0x2672#16 0x32#8 = 0x20B5#16 ∧ crcStep 0x9015#16 0x39#8 = 0x31C3#16 := by decide

/-- V12: the handshake, byte for byte. -/
theorem test_frame_handshake : frame 0x02#8 0#16 handshakePayload =
    [0xA5#8, 0x02#8, 0x00#8, 0x00#8, 0x00#8, 0x0F#8, 0x50#8, 0x52#8, 0x4F#8, 0x47#8, 0x52#8, 0x41#8, 0x4D#8, 0x4A#8, 0x43#8,
     0x38#8, 0x38#8, 0x31#8, 0x30#8, 0x44#8, 0x55#8, 0x94#8, 0x7D#8] := by decide +kernel

/-- V14, V16, V18, V21. -/
theorem test_frames_without_payload :
    frame 0x46#8 0#16 [] = [0xA5#8, 0x46#8, 0x00#8, 0x00#8, 0x00#8, 0x00#8, 0xDC#8, 0xED#8] ∧
      frame 0xEE#8 0#16 [] = [0xA5#8, 0xEE#8, 0x00#8, 0x00#8, 0x00#8, 0x00#8, 0xF4#8, 0xA4#8] ∧
      frame 0x10#8 63#16 [] = [0xA5#8, 0x10#8, 0x00#8, 0x3F#8, 0x00#8, 0x00#8, 0xED#8, 0xCE#8] ∧
      frame 0x10#8 0xFFFF#16 [] = [0xA5#8, 0x10#8, 0xFF#8, 0xFF#8, 0x00#8, 0x00#8, 0x80#8, 0x9A#8] := by decide +kernel

/-- V13, V15, V20, and the payload `A5 A5` of part 3. -/
theorem test_frames_with_payload :
    frame 0x05#8 0#16 defaultPassword =
        [0xA5#8, 0x05#8, 0x00#8, 0x00#8, 0x00#8, 0x06#8, 0xFF#8, 0xFF#8, 0xFF#8, 0xFF#8, 0xFF#8, 0xFF#8, 0xBF#8, 0xF4#8] ∧
      frame 0x01#8 0#16 endSessionPayload =
        [0xA5#8, 0x01#8, 0x00#8, 0x00#8, 0x00#8, 0x02#8, 0x00#8, 0x00#8, 0xD6#8, 0x01#8] ∧
      frame 0x46#8 0#16 [0x12#8, 0x34#8] =
        [0xA5#8, 0x46#8, 0x00#8, 0x00#8, 0x00#8, 0x02#8, 0x12#8, 0x34#8, 0x01#8, 0x6F#8] ∧
      frame 0x30#8 1#16 [0xA5#8, 0xA5#8] =
        [0xA5#8, 0x30#8, 0x00#8, 0x01#8, 0x00#8, 0x02#8, 0xA5#8, 0xA5#8, 0x9A#8, 0x78#8] := by decide +kernel

/-! ## One step of each instruction -/

theorem test_nop : after .nop received = some (Expect.answered .ok 0#16 received) := by decide

/-- R211's example. -/
theorem test_reset : (after .reset { waiting 2#3 with rx_ovr := true }).map
    (fun t => (t.tx_cmd, txStatWord t, rxStatWord t, xactStatWord t)) = some (0x00#8, 0#16, 0#16, 0#16) := by decide

/-- R103's example. -/
theorem test_crcInit : (after .crcInit { State.reset with crc := 0x31C3#16 }).map State.crc = some 0#16 := by decide

/-- V34, and V32. -/
theorem test_crcByte : (after (.crcByte 0x31#8) State.reset).map State.crc = some 0x2672#16 ∧
    (after (.crcByte 0x01#8) State.reset).map State.crc = some 0x1021#16 := by decide

theorem test_crcRead : answer .crcRead { State.reset with crc := 0x31C3#16 } = some ⟨.ok, 0x31C3#16⟩ := by decide

/-- R123's example. -/
theorem test_txbWr : (after (.txbWr 0#16 0x50#8) State.reset).map (fun t => Memory.read .txbuf t.txbuf 0) = some 0x50#8 := by
  have h : 0 < Config.maxLen := Nat.lt_of_lt_of_le (by decide) Config.maxLen_ge
  simp [after, exec, execTxbWr, txLocked, State.reset, XactState.active, addrOf, memWrite, h, Nat.not_le.mpr h, respond,
    respondState]

/-- V40: `EBUSY` outranks `EADDR`; V37 with the one address that lies outside every `TXBUF`. -/
theorem test_txbWr_refused : answer (.txbWr 0xFFFF#16 1#8) (sending 0 0#16) = some ⟨.ebusy, 0#16⟩ ∧
    answer (.txbWr 0xFFFF#16 1#8) State.reset = some ⟨.eaddr, 0#16⟩ := by
  have h := Config.maxLen_le
  refine ⟨by decide, ?_⟩
  simp [answer, after, exec, execTxbWr, txLocked, State.reset, XactState.active, addrOf, h, raise, respond, respondState]

/-- R124's example, and V38. -/
theorem test_txbRd : answer (.txbRd 0#16) { State.reset with txbuf := [(0, 0x50#8)] } = some ⟨.ok, 0x0050#16⟩ ∧
    answer (.txbRd 0xFFFF#16) State.reset = some ⟨.eaddr, 0#16⟩ := by
  have h := Config.maxLen_le
  refine ⟨by decide +kernel, ?_⟩
  simp [answer, after, exec, execTxbRd, addrOf, h, raise, respond, respondState]

/-- R125's and R126's examples. -/
theorem test_txSetcmd : (after (.txSetcmd 0x02#8) State.reset).map State.tx_cmd = some 0x02#8 ∧
    answer (.txSetcmd 0x02#8) (waiting 1#3) = some ⟨.ebusy, 0#16⟩ := by decide

theorem test_txGetcmd : answer .txGetcmd { State.reset with tx_cmd := 0x02#8 } = some ⟨.ok, 0x0002#16⟩ := by decide

/-- R127's and R128's examples. -/
theorem test_txSetseq : (after (.txSetseq 0x003F#16) State.reset).map State.tx_seq = some 0x003F#16 := by decide

theorem test_txGetseq : answer .txGetseq { State.reset with tx_seq := 0x003F#16 } = some ⟨.ok, 0x003F#16⟩ := by decide

/-- R129's example, and V36: the least `MAX_LEN` is accepted. -/
theorem test_txSetlen : (after (.txSetlen 15#16) State.reset).map State.tx_len = some 15#16 ∧
    (after (.txSetlen 1024#16) State.reset).map State.tx_len = some 1024#16 := by decide +kernel

/-- V35 where `MAX_LEN` is 1024: the length is refused. -/
theorem test_txSetlen_refused (h : Config.maxLen = 1024) : answer (.txSetlen 1025#16) State.reset = some ⟨.elen, 0#16⟩ := by
  simp [answer, after, exec, execTxSetlen, txLocked, State.reset, XactState.active, h, raise, respond, respondState]

theorem test_txGetlen : answer .txGetlen { State.reset with tx_len := 0x000F#16 } = some ⟨.ok, 0x000F#16⟩ := by decide

/-- V46. -/
theorem test_txStart : (after .txStart { State.reset with tx_crc := 7#16, tx_pos := 3 }).map
    (fun t => (t.tx_busy, t.tx_pos, t.tx_crc, txStatWord t)) = some (true, 0, 0#16, 0x0003#16) := by decide

/-- V46, V61; and busy after an early response, where R27 and R34 set both bits (notes/assumptions/15.md on V72). -/
theorem test_txStat : answer .txStat (sending 0 0#16) = some ⟨.ok, 0x0003#16⟩ ∧
    answer .txStat (waiting 1#3) = some ⟨.ok, 0x0002#16⟩ ∧
    answer .txStat { sending 3 0#16 with xact_state := .ok } = some ⟨.ok, 0x0003#16⟩ := by decide

/-- R163's example, and V41. -/
theorem test_rxFlush : (after .rxFlush { received with rx_ovr := true }).map (fun t => (rxStatWord t, t.rx_cmd)) =
      some (0x0000#16, 0x46#8) ∧
    answer .rxFlush (sendingIn 1#3 0 0#16) = some ⟨.ebusy, 0#16⟩ := by decide

/-- R164's example, and V38. -/
theorem test_rxbRd : answer (.rxbRd 1#16) received = some ⟨.ok, 0x0034#16⟩ ∧
    answer (.rxbRd 0xFFFF#16) received = some ⟨.eaddr, 0#16⟩ := by
  have h := Config.maxLen_le
  refine ⟨by decide +kernel, ?_⟩
  simp [answer, after, exec, execRxbRd, addrOf, h, raise, respond, respondState]

/-- V50, V51. -/
theorem test_rxStat : answer .rxStat received = some ⟨.ok, 0x0003#16⟩ ∧
    answer .rxStat { received with rx_ovr := true } = some ⟨.ok, 0x000B#16⟩ := by decide

/-- The examples of R166-R170. -/
theorem test_rxGetters : answer .rxGetcmd received = some ⟨.ok, 0x0046#16⟩ ∧ answer .rxGetseq received = some ⟨.ok, 0#16⟩ ∧
    answer .rxGetlen received = some ⟨.ok, 0x0002#16⟩ := by decide

/-- V53: the carried and the calculated CRC are not confused. -/
theorem test_rxGetcrc_rxGetcalc :
    answer .rxGetcrc { received with rx_crc_rcv := 0x016E#16 } = some ⟨.ok, 0x016E#16⟩ ∧
      answer .rxGetcalc { received with rx_crc_rcv := 0x016E#16 } = some ⟨.ok, 0x016F#16⟩ := by decide

/-- V74. -/
theorem test_xactStart : (after .xactStart { received with xact_state := .ok, xact_attempts := 3#3 }).map
    (fun t => (xactStatWord t, txStatWord t, rxStatWord t)) = some (0x0011#16, 0x0003#16, 0x0000#16) := by decide

/-- V61, V69. -/
theorem test_xactStat : answer .xactStat (waiting 1#3) = some ⟨.ok, 0x0012#16⟩ ∧
    answer .xactStat { waiting 4#3 with xact_state := .retryFail } = some ⟨.ok, 0x0046#16⟩ := by decide

/-- R187's example, and V42. -/
theorem test_xactCancel : (after .xactCancel (waiting 2#3)).map xactStatWord = some 0x0027#16 ∧
    (after .xactCancel State.reset).map xactStatWord = some 0x0000#16 := by decide

/-- V50: the third byte; V57: the second `A5` is the CMD. -/
theorem test_evRxByte_header :
    (after (.evRxByte 0xA5#8) received).map (fun t => (t.rx_state, t.rx_ovr)) = some (.valid, true) ∧
      (after (.evRxByte 0xA5#8) State.reset).map (fun t => (t.rx_state, t.rx_pos)) = some (.header, 0) ∧
      (after (.evRxByte 0xA5#8) (inHeader 0 0#8 0#16 0#16 0#16)).map (fun t => (t.rx_state, t.rx_pos, t.rx_cmd)) =
        some (.header, 1, 0xA5#8) := by decide

/-- V59: a NAK outside a transaction is a frame; V63, V64: inside one it is dropped, but its CRC comes first. -/
theorem test_evRxByte_nak :
    (after (.evRxByte 0xA4#8) (beforeLast 0xEE#8 0xF400#16 0xF4A4#16)).map (fun t => (t.rx_state, t.xact_state)) =
        some (.valid, .idle) ∧
      (after (.evRxByte 0xA4#8) { beforeLast 0xEE#8 0xF400#16 0xF4A4#16 with xact_state := .wait }).map
        (fun t => (t.rx_state, t.xact_state, t.rx_cmd)) = some (.hunt, .wait, 0xEE#8) ∧
      (after (.evRxByte 0xA5#8) { beforeLast 0xEE#8 0xF400#16 0xF4A4#16 with xact_state := .wait }).map
        (fun t => (t.rx_state, t.xact_state, t.rx_crc_rcv)) = some (.crcErr, .crcFail, 0xF4A5#16) := by decide

/-- V45: the second take and the eighth; V61: the eighth opens the window. -/
theorem test_evTxTake :
    (after .evTxTake (sending 1 0#16)).map (fun t => (t.emitted, t.tx_crc, t.tx_pos)) = some (some 0x46#8, 0x2802#16, 2) ∧
      (after .evTxTake (sending 7 0xDCED#16)).map (fun t => (t.emitted, t.tx_busy, t.tx_pos)) = some (some 0xED#8, false, 0) ∧
      (after .evTxTake (sendingIn 1#3 7 0xDCED#16)).map xactStatWord = some 0x0012#16 := by decide

/-- V43. -/
theorem test_evTxTake_idle : after .evTxTake State.reset = some State.reset := by decide

/-- V65, V66, V69. -/
theorem test_evWindowExpire :
    (after .evWindowExpire { waiting 1#3 with rx_state := .header, rx_pos := 2 }).map
        (fun t => (xactStatWord t, txStatWord t, rxStatWord t)) = some (0x0021#16, 0x0003#16, 0x0000#16) ∧
      (after .evWindowExpire (sendingIn 2#3 0 0#16)).map xactStatWord = some 0x0021#16 ∧
      (after .evWindowExpire (waiting 4#3)).map xactStatWord = some 0x0046#16 := by decide

/-- The next step runs the word placed, on its opcode's port; an undefined word gets `EOPC` (V39). -/
theorem test_step_runs_the_word :
    (∃ t, step (State.reset.withFetchWord 32 0x22000046) = .next t ∧ t.tx_cmd = 0x46#8) ∧
      (∃ t, step (State.reset.withFetchWord 32 0xF00000A5) = .next t ∧ t.rx_state = .header) ∧
      (∃ t, step (State.reset.withFetchWord 32 0x13000000) = .next t ∧ t.response = some ⟨.eopc, 0#16⟩) :=
  ⟨⟨_, rfl, rfl⟩, ⟨_, rfl, rfl⟩, ⟨_, rfl, rfl⟩⟩

/-! ## Witnesses: for each statement with hypotheses, a state and operands that meet them, at the edges of each clause's
range. Where `MAX_LEN = 65535` no length is above it (R9, R129, R158), so the witnesses of those clauses assume the rest. -/

/-- A state without a frame or a transaction under way meets the invariants. -/
theorem codecInv_idle {s : State} (hl : s.tx_len = 0#16) (hb : s.tx_busy = false) (hr : s.rx_state = .hunt) (hp : s.rx_pos = 0)
    (hx : s.xact_state = .idle) (ht : s.txbuf = []) (hq : s.rxbuf = []) : CodecInv s := by
  constructor <;> simp [hl, hb, hr, hp, hx, ht, hq, Memory.wf, Memory.wfFrom]

/-- The largest length. -/
def maxLen16 : Half := BitVec.ofNat 16 Config.maxLen

theorem maxLen16_toNat : maxLen16.toNat = Config.maxLen := by
  have := Config.maxLen_le
  simp [maxLen16]; omega

/-- The largest address of a buffer byte. -/
def lastAddr : Half := BitVec.ofNat 16 (Config.maxLen - 1)

theorem lastAddr_toNat : lastAddr.toNat = Config.maxLen - 1 := by
  have := Config.maxLen_le
  simp [lastAddr]; omega

theorem maxLen_pos : 0 < Config.maxLen := Nat.lt_of_lt_of_le (by decide) Config.maxLen_ge

theorem witness_EncodedInstructionsDecodeBack :
    Port.event ≠ Instr.nop.port ∧ Port.host ≠ (Instr.evRxByte 0xA5#8).port := by decide

/-- The junk words of V32 and V33 beside the plain ones, and a junk `D8` beside format H. -/
theorem witness_UnreadFieldsAreIgnored :
    decode .host 0x11000001#32 = some (.crcByte 1#8) ∧ 0x11FFFF01#32 &&& 0xFF000000#32 = 0x11000001#32 &&& 0xFF000000#32 ∧
      (0x11FFFF01#32).extractLsb' 0 8 = (0x11000001#32).extractLsb' 0 8 ∧
      decode .host 0x24003F00#32 = some (.txSetseq 63#16) ∧
      0x24003FFF#32 &&& 0xFF000000#32 = 0x24003F00#32 &&& 0xFF000000#32 ∧
      (0x24003FFF#32).extractLsb' 8 16 = (0x24003F00#32).extractLsb' 8 16 := by decide

theorem witness_AssemblerPacksTheFields :
    (AsmLine.mk none "TXB_WR" [0xFFFF, 0xFF]).wellFormed = true ∧
      (AsmLine.mk none "TXB_WR" [0x10000, 0xFF]).wellFormed = false := by decide

theorem witness_StepRunsTheNextInput :
    ({ State.reset with inputs := [⟨.event, 0xF1000000#32⟩] }).inputs = ⟨.event, 0xF1000000#32⟩ :: [] ∧
      decode .event 0xF1000000#32 = some .evTxTake ∧ State.reset.inputs = [] := by decide

/-- The edges of R79's ranges, and the event opcodes on the host port. -/
theorem witness_UndefinedWordsChangeNothing :
    ([0x02#8, 0x0F#8, 0x13#8, 0x1F#8, 0x2A#8, 0x2F#8, 0x38#8, 0x3F#8, 0x43#8, 0xF0#8, 0xF2#8, 0xFF#8].all
      fun op => decide (op ∉ Expect.hostOpcodes)) = true ∧
      ([0x00#8, 0x40#8, 0xEF#8, 0xF3#8, 0xFF#8].all fun op => decide (op ∉ [0xF0#8, 0xF1#8, 0xF2#8])) = true ∧
      (0x13000000#32).extractLsb' 24 8 = 0x13#8 := by decide

/-- Bytes for the CRC unit with another agent's word and an undefined word between them. -/
theorem witness_CrcUnitIsUndisturbed : ∃ s : State, CodecInv s ∧
    s.inputs = Instr.crcInit.toInput :: ([(Instr.crcByte 0x31#8).toInput, (Instr.evRxByte 0xA5#8).toInput,
      ⟨.host, 0x13000000#32⟩, (Instr.crcByte 0x32#8).toInput] ++ []) ∧
    ∀ x ∈ [(Instr.crcByte 0x31#8).toInput, (Instr.evRxByte 0xA5#8).toInput, ⟨.host, 0x13000000#32⟩,
      (Instr.crcByte 0x32#8).toInput], decode x.port x.word ≠ some .crcInit ∧ decode x.port x.word ≠ some .reset :=
  ⟨{ State.reset with inputs := _ }, codecInv_idle rfl rfl rfl rfl rfl rfl rfl, rfl, by decide⟩

theorem witness_locked : Expect.locked (sending 0 0#16) ∧ Expect.locked (sendingIn 1#3 0 0#16) ∧ Expect.locked (waiting 4#3) ∧
    ¬ Expect.locked State.reset ∧ ¬ Expect.locked received := by
  unfold Expect.locked; decide

theorem witness_active : Expect.active (sendingIn 1#3 0 0#16) ∧ Expect.active (waiting 1#3) ∧ ¬ Expect.active State.reset ∧
    ¬ Expect.active { waiting 1#3 with xact_state := .cancelled } := by
  unfold Expect.active; decide

/-- The first and last address inside, the first and last outside. -/
theorem witness_TxbWrStoresOneByte : Expect.locked (sending 0 0#16) ∧ ¬ Expect.locked State.reset ∧
    (0#16).toNat < Config.maxLen ∧ lastAddr.toNat < Config.maxLen ∧ Config.maxLen ≤ maxLen16.toNat ∧
    Config.maxLen ≤ (0xFFFF#16).toNat := by
  have h1 := lastAddr_toNat
  have h2 := maxLen_pos
  exact ⟨witness_locked.1, witness_locked.2.2.2.1, h2, by omega, by rw [maxLen16_toNat], Config.maxLen_le⟩

theorem witness_BufferReadsReturnTheByte : (0#16).toNat < Config.maxLen ∧ lastAddr.toNat < Config.maxLen ∧
    Config.maxLen ≤ maxLen16.toNat ∧ Config.maxLen ≤ (0xFFFF#16).toNat := witness_TxbWrStoresOneByte.2.2

/-- The lengths 0 and `MAX_LEN` are accepted; `MAX_LEN + 1` is refused where 16 bits can hold it. -/
theorem witness_TxSettersWriteTheirRegister : Expect.locked (waiting 1#3) ∧ ¬ Expect.locked State.reset ∧
    (0#16).toNat ≤ Config.maxLen ∧ maxLen16.toNat ≤ Config.maxLen ∧
    (Config.maxLen < 65535 → Config.maxLen < (maxLen16 + 1#16).toNat) := by
  have h := maxLen16_toNat
  refine ⟨witness_locked.2.2.1, witness_locked.2.2.2.1, Nat.zero_le _, by omega, fun hm => ?_⟩
  rw [BitVec.toNat_add, h, BitVec.toNat_ofNat, Nat.mod_eq_of_lt] <;> omega

theorem witness_TxStartStartsTheEncoder : Expect.locked (sending 3 0#16) ∧ ¬ Expect.locked received := by
  unfold Expect.locked; decide

theorem witness_LockRefusesTheSixCommands : Expect.locked (waiting 1#3) ∧
    (∃ a b, Instr.txbWr 0xFFFF#16 1#8 = .txbWr a b) ∧ ∃ a, Instr.txbRd 0#16 = .txbRd a :=
  ⟨witness_locked.2.2.1, ⟨_, _, rfl⟩, ⟨_, rfl⟩⟩

/-- Lengths 0 and `MAX_LEN`; the first and last payload index. -/
theorem witness_FrameByteByIndex : State.reset.tx_len.toNat ≤ Config.maxLen ∧
    ({ State.reset with tx_len := maxLen16 }).tx_len.toNat ≤ Config.maxLen ∧ 6 ≤ 6 ∧ 6 ≤ 5 + maxLen16.toNat ∧
    5 + maxLen16.toNat ≤ 5 + maxLen16.toNat := by
  have h := maxLen16_toNat
  have h2 := maxLen_pos
  exact ⟨Nat.zero_le _, by show maxLen16.toNat ≤ _; omega, by omega, by omega, by omega⟩

/-- Idle; busy at the first index and at the last. -/
theorem witness_TakeEmitsTheOfferedByte : State.reset.tx_busy = false ∧ (sending 0 0#16).tx_busy = true ∧
    (sending 0 0#16).tx_len.toNat ≤ Config.maxLen ∧ (sending 0 0#16).tx_pos ≤ (sending 0 0#16).tx_len.toNat + 7 ∧
    (sending 7 0xDCED#16).tx_pos ≤ (sending 7 0xDCED#16).tx_len.toNat + 7 :=
  ⟨rfl, rfl, Nat.zero_le _, by decide, by decide⟩

theorem witness_FrameLayout : ([] : List Byte).length ≤ 65535 ∧ (List.replicate 65535 (0xFF#8 : Byte)).length ≤ 65535 :=
  ⟨Nat.zero_le _, List.length_replicate.le⟩

/-- A state that sends meets the invariants. -/
theorem codecInv_sending (pos : Nat) (c : Half) (h : pos ≤ 7) : CodecInv (sending pos c) := by
  constructor <;> simp [sending, State.reset, Memory.wf, Memory.wfFrom, h]

/-- V45 before the first, the second and the last covered byte. -/
theorem witness_TxCrcTracksTheEmittedBytes :
    CodecInv (sending 2 0x2802#16) ∧ TxCrcTracks (sending 0 0#16) ∧ TxCrcTracks (sending 2 0x2802#16) ∧
      TxCrcTracks (sending 6 0xDCED#16) ∧
      ∃ t, step { sending 2 0x2802#16 with inputs := [Instr.evTxTake.toInput] } = .next t := by
  refine ⟨codecInv_sending 2 _ (by decide), fun _ => ?_, fun _ => ?_, fun _ => ?_, _, rfl⟩ <;> decide +kernel

/-- A request of `n` payload bytes is loaded and some inputs are pending. -/
def loaded (n : Half) (xs : List Input) : State :=
  { State.reset with tx_cmd := 0x10#8, tx_seq := 63#16, tx_len := n, inputs := xs }

theorem codecInv_loaded (n : Half) (xs : List Input) (hn : n.toNat ≤ Config.maxLen) : CodecInv (loaded n xs) := by
  constructor <;> simp [loaded, State.reset, Memory.wf, Memory.wfFrom, hn]

theorem loaded_not_locked (n : Half) (xs : List Input) : ¬ Expect.locked (loaded n xs) := by
  simp [Expect.locked, loaded, State.reset]

/-- The inputs that send a frame of `n` payload bytes. -/
def sendInputs (n : Half) : List Input := Instr.txStart.toInput :: (takeInputs (n.toNat + 8) ++ [])

/-- The empty payload, and the largest. -/
theorem witness_TxStartSendsTheWholeFrame :
    (CodecInv (loaded 0#16 (sendInputs 0#16)) ∧ ¬ Expect.locked (loaded 0#16 (sendInputs 0#16)) ∧
      (loaded 0#16 (sendInputs 0#16)).inputs = Instr.txStart.toInput :: (takeInputs (0 + 8) ++ [])) ∧
      CodecInv (loaded maxLen16 (sendInputs maxLen16)) ∧ ¬ Expect.locked (loaded maxLen16 (sendInputs maxLen16)) ∧
      (loaded maxLen16 (sendInputs maxLen16)).inputs = Instr.txStart.toInput :: (takeInputs (Config.maxLen + 8) ++ []) := by
  have h := maxLen16_toNat
  refine ⟨⟨codecInv_loaded _ _ (Nat.zero_le _), loaded_not_locked _ _, rfl⟩, codecInv_loaded _ _ h.le, loaded_not_locked _ _, ?_⟩
  rw [← h]; rfl

theorem witness_HuntDiscardsUntilSof : State.reset.rx_state = .hunt ∧ 0x5A#8 ≠ 0xA5#8 := by decide

/-- Each header position; the fifth byte with an accepted length and with one above `MAX_LEN`, where there is one. -/
theorem witness_HeaderBytesFillTheRegisters :
    (inHeader 0 0#8 0#16 0#16 0#16).rx_state = .header ∧ (inHeader 0 0#8 0#16 0#16 0#16).rx_pos = 0 ∧
      (inHeader 1 0#8 0#16 0#16 0#16).rx_pos = 1 ∧ (inHeader 2 0#8 0#16 0#16 0#16).rx_pos = 2 ∧
      (inHeader 3 0#8 0#16 0#16 0#16).rx_pos = 3 ∧ (inHeader 4 0#8 0#16 0x0400#16 0#16).rx_pos = 4 ∧
      (0x0400#16 : Half) = (0x0400#16).extractLsb' 8 8 ++ 0x00#8 ∧ (0x0400#16).toNat ≤ Config.maxLen ∧
      (0xFFFF#16 : Half) = (0xFF00#16).extractLsb' 8 8 ++ 0xFF#8 ∧ (Config.maxLen < 65535 → Config.maxLen < (0xFFFF#16).toNat) ∧
      ¬ Expect.active (inHeader 4 0#8 0#16 0xFF00#16 0#16) ∧
      Expect.active { inHeader 4 0#8 0#16 0xFF00#16 0#16 with xact_state := .wait } := by
  refine ⟨rfl, rfl, rfl, rfl, rfl, rfl, by decide, Config.maxLen_ge, by decide, id, ?_, ?_⟩ <;> unfold Expect.active <;> decide

/-- The first payload byte, the last of the longest payload, and the high CRC byte of the empty and of the longest. -/
theorem witness_BodyBytesFillTheBuffer :
    ({ State.reset with rx_state := .body, rx_len := 2#16 }).rx_state = .body ∧ (2#16).toNat ≤ Config.maxLen ∧ 0 < (2#16).toNat ∧
      maxLen16.toNat ≤ Config.maxLen ∧ Config.maxLen - 1 < maxLen16.toNat ∧ (0 : Nat) = (0#16).toNat ∧
      Config.maxLen = maxLen16.toNat := by
  have h := maxLen16_toNat
  have h2 := Config.maxLen_ge
  exact ⟨rfl, by show 2 ≤ _; omega, by decide, by omega, by omega, rfl, h.symm⟩

/-- V14's, V16's and a wrong last byte, inside and outside a transaction. -/
theorem witness_LastByteDecidesTheFrame :
    (beforeLast 0x46#8 0xDC00#16 0xDCED#16).rx_state = .body ∧
      (beforeLast 0x46#8 0xDC00#16 0xDCED#16).rx_pos = (beforeLast 0x46#8 0xDC00#16 0xDCED#16).rx_len.toNat + 1 ∧
      (0xDCED#16 : Half) = (0xDC00#16).extractLsb' 8 8 ++ 0xED#8 ∧ (0xDCEC#16 : Half) = (0xDC00#16).extractLsb' 8 8 ++ 0xEC#8 ∧
      (0xDCEC#16 : Half) ≠ 0xDCED#16 ∧ (beforeLast 0x46#8 0xDC00#16 0xDCED#16).rx_cmd ≠ 0xEE#8 ∧
      (beforeLast 0xEE#8 0xF400#16 0xF4A4#16).rx_cmd = 0xEE#8 ∧ (0xF4A4#16 : Half) = (0xF400#16).extractLsb' 8 8 ++ 0xA4#8 ∧
      ¬ Expect.active (beforeLast 0x46#8 0xDC00#16 0xDCED#16) ∧
      Expect.active { beforeLast 0x46#8 0xDC00#16 0xDCED#16 with xact_state := .send } := by
  unfold Expect.active; decide

theorem witness_TerminalDecoderDropsBytes : Expect.ended received ∧ Expect.ended { received with rx_state := .crcErr } ∧
    Expect.ended { received with rx_state := .lenErr } := by
  unfold Expect.ended; decide

theorem witness_RxFlushResetsTheDecoder : Expect.active (waiting 1#3) ∧ ¬ Expect.active received := by
  unfold Expect.active; decide

/-- The state of V45's frame under way on the receive side, after SOF and its first header byte. -/
theorem witness_RxRegistersTrackTheFrame :
    CodecInv (inHeader 1 0x46#8 0#16 0#16 0x2802#16) ∧ RxTracks (inHeader 1 0x46#8 0#16 0#16 0x2802#16) ∧
      RxTracks (beforeLast 0x46#8 0xDC00#16 0xDCED#16) ∧ RxTracks received ∧
      ∃ t, step { inHeader 1 0x46#8 0#16 0#16 0x2802#16 with inputs := [(Instr.evRxByte 0#8).toInput] } = .next t := by
  have h := Config.maxLen_ge
  refine ⟨?_, ?_, ?_, ?_, _, rfl⟩
  · constructor <;> simp [inHeader, State.reset, Memory.wf, Memory.wfFrom]
  · constructor
    · intro _; decide
    all_goals simp [inHeader]
  · constructor
    · intro _; decide +kernel
    all_goals simp [beforeLast]
  · constructor
    · intro _; decide +kernel
    · intro _; rfl
    · simp [received]
    · simp [received]
    · intro _; show 2 ≤ _; omega

/-- V50's noise and frame, V53's wrong CRC, and the longest payload; V54's header where its length is too long. -/
theorem witness_DecoderAcceptsExactlyTheValidFrames :
    (∃ s : State, s.rx_state = .hunt ∧ ¬ Expect.active s ∧ 0xA5#8 ∉ [0x00#8, 0x5A#8] ∧
      [0x12#8, 0x34#8].length ≤ Config.maxLen ∧
      s.inputs = rxInputs ([0x00#8, 0x5A#8] ++ 0xA5#8 :: (frameCovered 0x46#8 0#16 [0x12#8, 0x34#8] ++ [0x01#8, 0x6F#8])) ++ []) ∧
      0x01#8 ++ 0x6F#8 = crc16 (frameCovered 0x46#8 0#16 [0x12#8, 0x34#8]) ∧
      0x01#8 ++ 0x6E#8 ≠ crc16 (frameCovered 0x46#8 0#16 [0x12#8, 0x34#8]) ∧
      (List.replicate Config.maxLen (0x00#8 : Byte)).length ≤ Config.maxLen ∧
      (Config.maxLen < 65535 → ∃ s : State, s.rx_state = .hunt ∧ ¬ Expect.active s ∧ Config.maxLen < (0xFFFF#16).toNat ∧
        s.inputs = rxInputs ([] ++ 0xA5#8 :: frameHeader 0x10#8 0#16 0xFFFF#16) ++ []) := by
  have h := Config.maxLen_ge
  refine ⟨⟨{ State.reset with inputs := _ }, rfl, ?_, by decide, by show 2 ≤ _; omega, rfl⟩, by decide +kernel,
    by decide +kernel, by simp, fun hm => ⟨{ State.reset with inputs := _ }, rfl, ?_, hm, rfl⟩⟩ <;>
    (unfold Expect.active; decide)

/-- A held frame and a late byte (V51), a host command, and the expiry after the fourth attempt. -/
theorem witness_HeldFrameIsStable : Expect.ended received ∧ (∃ t, exec (.evRxByte 0x77#8) received = .next t) ∧
    (∃ t, exec .rxStat received = .next t) ∧
    ∃ t, exec .evWindowExpire { received with xact_state := .wait, xact_attempts := 4#3 } = .next t :=
  ⟨witness_TerminalDecoderDropsBytes.1, ⟨_, rfl⟩, ⟨_, rfl⟩, ⟨_, rfl⟩⟩

theorem witness_XactStartBeginsTheTransaction : Expect.locked (sending 0 0#16) ∧ ¬ Expect.locked received :=
  ⟨witness_locked.1, witness_locked.2.2.2.2⟩

theorem witness_XactCancelEndsTheTransaction : Expect.active (sendingIn 1#3 3 0#16) ∧ Expect.active (waiting 2#3) ∧
    ¬ Expect.active State.reset := by
  unfold Expect.active; decide

/-- Outside `WAIT`, after the first and the third attempt, and after the fourth. -/
theorem witness_WindowExpiryRetriesOrFails : (sendingIn 2#3 0 0#16).xact_state ≠ .wait ∧ (waiting 1#3).xact_state = .wait ∧
    (waiting 1#3).xact_attempts.toNat < 4 ∧ (waiting 3#3).xact_attempts.toNat < 4 ∧
    (waiting 4#3).xact_attempts.toNat = 4 := by decide

/-- One input for each row of the table. -/
theorem witness_XactTransitionsAreTheTable :
    (∃ t, exec .xactStart received = .next t ∧ t.xact_state ≠ received.xact_state) ∧
      (∃ t, exec .evTxTake (sendingIn 1#3 7 0xDCED#16) = .next t ∧ t.xact_state ≠ .send) ∧
      (∃ t, exec .evWindowExpire (waiting 3#3) = .next t ∧ t.xact_state ≠ .wait) ∧
      (∃ t, exec .evWindowExpire (waiting 4#3) = .next t ∧ t.xact_state ≠ .wait) ∧
      (∃ t, exec (.evRxByte 0xED#8) { beforeLast 0x46#8 0xDC00#16 0xDCED#16 with xact_state := .wait } = .next t ∧
        t.xact_state ≠ .wait) ∧
      (∃ t, exec (.evRxByte 0xEC#8) { beforeLast 0x46#8 0xDC00#16 0xDCED#16 with xact_state := .send } = .next t ∧
        t.xact_state ≠ .send) ∧
      (∃ t, exec .xactCancel (waiting 2#3) = .next t ∧ t.xact_state ≠ .wait) ∧
      (∃ t, exec .reset (waiting 2#3) = .next t ∧ t.xact_state ≠ .wait) :=
  ⟨⟨_, rfl, by decide⟩, ⟨_, rfl, by decide⟩, ⟨_, rfl, by decide⟩, ⟨_, rfl, by decide⟩, ⟨_, rfl, by decide⟩,
    ⟨_, rfl, by decide⟩, ⟨_, rfl, by decide⟩, ⟨_, rfl, by decide⟩⟩

/-- The row of `RETRYFAIL` in a state that meets the invariants, and V63's NAK before its last byte. -/
theorem witness_XactTransitionsAreTheTable_clauses : CodecInv (waiting 4#3) ∧
    Expect.active { beforeLast 0xEE#8 0xF400#16 0xF4A4#16 with xact_state := .wait } ∧
    (beforeLast 0xEE#8 0xF400#16 0xF4A4#16).rx_state = .body ∧
    (beforeLast 0xEE#8 0xF400#16 0xF4A4#16).rx_pos = (beforeLast 0xEE#8 0xF400#16 0xF4A4#16).rx_len.toNat + 1 ∧
    (beforeLast 0xEE#8 0xF400#16 0xF4A4#16).rx_cmd = 0xEE#8 ∧ (0xF400#16).extractLsb' 8 8 ++ 0xA4#8 = 0xF4A4#16 := by
  refine ⟨?_, by unfold Expect.active; decide⟩
  constructor <;> simp [waiting, State.reset, Memory.wf, Memory.wfFrom]

theorem witness_TerminalTransactionsHold :
    (∃ t, exec .evWindowExpire { waiting 4#3 with xact_state := .retryFail } = .next t) ∧
      (∃ t, exec .xactCancel { waiting 2#3 with xact_state := .ok } = .next t) ∧
      (∃ t, exec .evTxTake { sending 7 0xDCED#16 with xact_state := .ok } = .next t) :=
  ⟨⟨_, rfl⟩, ⟨_, rfl⟩, ⟨_, rfl⟩⟩

/-- Each way the count changes, and each way the encoder starts. -/
theorem witness_RetriesOnlyOnWindowExpiry :
    (∃ t, exec .evWindowExpire (waiting 3#3) = .next t ∧ t.xact_attempts ≠ 3#3 ∧ t.tx_busy = true) ∧
      (∃ t, exec .xactStart received = .next t ∧ t.xact_attempts ≠ 0#3 ∧ t.tx_busy = true) ∧
      (∃ t, exec .reset (waiting 4#3) = .next t ∧ t.xact_attempts ≠ 4#3) ∧
      (∃ t, exec .txStart received = .next t ∧ t.tx_busy = true) ∧ received.tx_busy = false ∧ (waiting 3#3).tx_busy = false :=
  ⟨⟨_, rfl, by decide, rfl⟩, ⟨_, rfl, by decide, rfl⟩, ⟨_, rfl, by decide⟩, ⟨_, rfl, rfl⟩, rfl, rfl⟩

theorem witness_LockKeepsTheRequest : Expect.locked (waiting 1#3) ∧
    (∃ t, exec (.txSetcmd 0x02#8) (waiting 1#3) = .next t) ∧ ∃ t, exec .evWindowExpire (waiting 1#3) = .next t :=
  ⟨witness_locked.2.2.1, ⟨_, rfl⟩, ⟨_, rfl⟩⟩

/-- The inputs of a request of `n` payload bytes that is never answered. -/
def unansweredInputs (n : Half) : List Input :=
  Instr.xactStart.toInput ::
    ((List.replicate 4 (takeInputs (n.toNat + 8) ++ [Instr.evWindowExpire.toInput])).flatten ++ [])

/-- P5's request, and one with the largest payload. -/
theorem witness_UnansweredRequestIsSentFourTimes :
    ∀ s ∈ [loaded 0#16 (unansweredInputs 0#16), loaded maxLen16 (unansweredInputs maxLen16)],
      CodecInv s ∧ ¬ Expect.locked s ∧ s.inputs = Instr.xactStart.toInput ::
        ((List.replicate 4 (takeInputs (s.tx_len.toNat + 8) ++ [Instr.evWindowExpire.toInput])).flatten ++ []) := by
  simp only [List.forall_mem_cons, List.not_mem_nil, false_imp_iff, implies_true, and_true]
  exact ⟨⟨codecInv_loaded _ _ (Nat.zero_le _), loaded_not_locked _ _, rfl⟩, codecInv_loaded _ _ maxLen16_toNat.le,
    loaded_not_locked _ _, rfl⟩

/-- P4: V16's NAK, then V20's response. -/
theorem witness_NakIsDroppedThenTheResponseCompletes : ∃ s : State, s.xact_state = .wait ∧ s.rx_state = .hunt ∧
    ([] : List Byte).length ≤ Config.maxLen ∧ [0x12#8, 0x34#8].length ≤ Config.maxLen ∧ 0x46#8 ≠ 0xEE#8 ∧
    s.inputs = rxInputs (frame 0xEE#8 0#16 []) ++ (rxInputs (frame 0x46#8 0#16 [0x12#8, 0x34#8]) ++ []) := by
  have h := Config.maxLen_ge
  exact ⟨{ waiting 1#3 with inputs := _ }, rfl, rfl, Nat.zero_le _, by show 2 ≤ _; omega, by decide, rfl⟩

/-- Before the last byte of V14, in the window of attempt number `n`, with some inputs pending. -/
def responding (n : BitVec 3) (xs : List Input) : State :=
  { beforeLast 0x46#8 0xDC00#16 0xDCED#16 with xact_state := .wait, xact_attempts := n, inputs := xs }

/-- Both orders, in the window of the first attempt and of the third. -/
theorem witness_ByteAndExpiryOrderDecides :
    ∀ s ∈ [responding 1#3 [(Instr.evRxByte 0xED#8).toInput, Instr.evWindowExpire.toInput],
        responding 3#3 [Instr.evWindowExpire.toInput, (Instr.evRxByte 0xED#8).toInput]],
      s.xact_state = .wait ∧ s.xact_attempts.toNat < 4 ∧ s.rx_state = .body ∧ s.rx_pos = s.rx_len.toNat + 1 ∧
        s.rx_crc_rcv.extractLsb' 8 8 ++ 0xED#8 = s.rx_crc_calc ∧ s.rx_cmd ≠ 0xEE#8 := by decide

theorem witness_RefusedCommandsChangeNothing : ∃ t, exec .rxFlush (waiting 1#3) = .next t ∧
    t.response = some ⟨.ebusy, 0#16⟩ ∧ ResultCode.ebusy ≠ .ok := ⟨_, rfl, rfl, by decide⟩

theorem witness_ReadsHaveNoSideEffect : Expect.isRead (.rxbRd 0#16) = true ∧ Expect.isRead .xactStat = true := by decide

theorem witness_OutputsFollowThePorts :
    (∃ t, exec .nop State.reset = .next t ∧ Instr.nop.port = .host) ∧
      ∃ t, exec .evTxTake (sending 1 0#16) = .next t ∧ Instr.evTxTake.port = .event ∧ t.emitted = some 0x46#8 :=
  ⟨⟨_, rfl, rfl⟩, ⟨_, rfl, rfl, by decide⟩⟩

/-- Each error code but `ELEN`, which needs a `MAX_LEN` below 65535. -/
theorem witness_ResultCodesAndTheirCauses :
    (∃ t, exec .txStart (waiting 1#3) = .next t ∧ t.response = some ⟨.ebusy, 0#16⟩) ∧
      (∃ t, exec .rxFlush (waiting 1#3) = .next t ∧ t.response = some ⟨.ebusy, 0#16⟩) ∧
      (∃ t, exec (.rxbRd 0xFFFF#16) State.reset = .next t ∧ t.response = some ⟨.eaddr, 0#16⟩) ∧
      (Config.maxLen < 65535 → ∃ t, exec (.txSetlen 0xFFFF#16) State.reset = .next t ∧ t.response = some ⟨.elen, 0#16⟩) := by
  have h := Config.maxLen_le
  refine ⟨⟨_, rfl, rfl⟩, ⟨_, rfl, rfl⟩, ?_, fun hm => ?_⟩
  · simp [exec, execRxbRd, addrOf, h, raise, respond, respondState]
  · simp [exec, execTxSetlen, txLocked, State.reset, XactState.active, hm, raise, respond, respondState]

/-- Writing another byte than `BUF_INIT` lists it. -/
theorem write_empty (n : BufName) : Memory.write n [] 0 (Config.bufInit n 0 + 1#8) = [(0, Config.bufInit n 0 + 1#8)] := by
  simp [Memory.write, Memory.insert]

/-- A change of each group of registers and of each buffer. -/
theorem witness_OnlyTheirInstructionsWriteTheState :
    (∃ t, exec (.crcByte 1#8) State.reset = .next t ∧ t.crc ≠ 0#16) ∧
      (∃ t, exec (.txSetcmd 1#8) State.reset = .next t ∧ t.tx_cmd ≠ 0#8) ∧
      (∃ t, exec (.txSetseq 1#16) State.reset = .next t ∧ t.tx_seq ≠ 0#16) ∧
      (∃ t, exec .reset { State.reset with tx_len := 1#16 } = .next t ∧ t.tx_len ≠ 1#16) ∧
      (∃ t, exec (.evRxByte 1#8) (inHeader 0 0#8 0#16 0#16 0#16) = .next t ∧ t.rx_cmd ≠ 0#8) ∧
      (∃ t, exec .evTxTake (sending 1 0#16) = .next t ∧ t.tx_crc ≠ 0#16) ∧
      (∃ t, exec (.evRxByte 1#8) received = .next t ∧ t.rx_ovr ≠ false) ∧
      (∃ t, exec .rxFlush { received with rx_ovr := true } = .next t ∧ t.rx_ovr ≠ true) ∧
      (∃ t, exec (.txbWr 0#16 (Config.bufInit .txbuf 0 + 1#8)) State.reset = .next t ∧ t.txbuf ≠ []) ∧
      ∃ t, exec (.evRxByte (Config.bufInit .rxbuf 0 + 1#8)) { State.reset with rx_state := .body, rx_len := 1#16 } = .next t ∧
        t.rxbuf ≠ [] := by
  have h := maxLen_pos
  refine ⟨⟨_, rfl, by decide⟩, ⟨_, rfl, by decide⟩, ⟨_, rfl, by decide⟩, ⟨_, rfl, by decide⟩, ⟨_, rfl, by decide⟩,
    ⟨_, rfl, by decide⟩, ⟨_, rfl, by decide⟩, ⟨_, rfl, by decide⟩, ?_, ?_⟩
  · simp [exec, execTxbWr, txLocked, State.reset, XactState.active, addrOf, memWrite, h, Nat.not_le.mpr h, respond, respondState,
      write_empty]
  · simp [exec, execEvRxByte, rxByte, rxBody, rxPayload, memWrite, h, State.reset, controllerHook, RxState.terminal, quiet,
      write_empty]

/-- A change of each state machine's registers: the encoder's both ways, the decoder's and the controller's. -/
theorem witness_OnlyTheirInstructionsWriteTheState_machines :
    (∃ t, exec .txStart State.reset = .next t ∧ t.tx_busy ≠ false) ∧
      (∃ t, exec .evTxTake (sending 7 0xDCED#16) = .next t ∧ t.tx_busy ≠ true ∧ t.tx_pos ≠ 7) ∧
      (∃ t, exec (.evRxByte 0xA5#8) State.reset = .next t ∧ t.rx_state ≠ .hunt) ∧
      (∃ t, exec (.evRxByte 0#8) (inHeader 1 0x46#8 0#16 0#16 0x2802#16) = .next t ∧ t.rx_pos ≠ 1) ∧
      ∃ t, exec .evWindowExpire (waiting 3#3) = .next t ∧ t.xact_state ≠ .wait ∧ t.xact_attempts ≠ 3#3 :=
  ⟨⟨_, rfl, by decide⟩, ⟨_, rfl, by decide, by decide⟩, ⟨_, rfl, by decide⟩, ⟨_, rfl, by decide⟩,
    ⟨_, rfl, by decide, by decide⟩⟩

theorem witness_StepKeepsTheInvariants : CodecInv (sending 7 0xDCED#16) ∧
    ∃ t, step { sending 7 0xDCED#16 with inputs := [Instr.evTxTake.toInput] } = .next t :=
  ⟨codecInv_sending 7 _ (by decide), _, rfl⟩

theorem witness_InvariantStatesNeverStop : CodecInv (sending 7 0xDCED#16) := codecInv_sending 7 _ (by decide)

theorem witness_EqualBuffersAreEqualData : Memory.wf .txbuf [(0, Config.bufInit .txbuf 0 + 1#8)] = true := by
  simp [Memory.wf, Memory.wfFrom, maxLen_pos]

/-- The hypotheses are met with any inputs after the `TX_START`. -/
theorem witness_EndsOfRunsAreTheTerminalStates (xs : List Input) :
    CodecInv (loaded 0#16 (Instr.txStart.toInput :: (xs ++ []))) ∧
      ¬ Expect.locked (loaded 0#16 (Instr.txStart.toInput :: (xs ++ []))) ∧
      (loaded 0#16 (Instr.txStart.toInput :: (xs ++ []))).inputs = Instr.txStart.toInput :: (xs ++ []) :=
  ⟨codecInv_loaded _ _ (Nat.zero_le _), loaded_not_locked _ _, rfl⟩

/-- V45: eight takes end the frame without payload, seven do not; without `TX_START` no transmission has ended (R263). -/
theorem test_transmission_ends_with_the_last_take :
    transmissionEnded 8 (loaded 0#16 (sendInputs 0#16)) = true ∧ transmissionEnded 7 (loaded 0#16 (sendInputs 0#16)) = false ∧
      transmissionEnded 8 (loaded 0#16 []) = false ∧
      transmissionEnded 1 (loaded 0#16 [Instr.txStart.toInput, Instr.reset.toInput]) = true := by decide

end Sys2Proof.Tests
end

section
/-! The step, read forwards: one equation for each way a step with a defined word, or with no word, can go. -/

namespace Sys2Proof.Machine

theorem takeInput_of_inputs_nil {s : State} (h : s.inputs = []) : takeInput s = none := by
  simp only [takeInput, h]

theorem takeInput_of_inputs_cons {s : State} {x : Input} {rest : List Input} (h : s.inputs = x :: rest) :
    takeInput s = some (x, { s with inputs := rest }) := by
  simp only [takeInput, h]

theorem step_of_inputs_nil {s : State} (h : s.inputs = []) : step s = .next (quiet s) := by
  simp only [step, takeInput_of_inputs_nil h, noInput]

theorem step_of_decode_eq_some {s : State} {x : Input} {rest : List Input} {i : Instr} (h : s.inputs = x :: rest)
    (hd : decode x.port x.word = some i) : step s = exec i { s with inputs := rest } := by
  simp only [step, takeInput_of_inputs_cons h, hd]

/-- Settles O6: the two equations of the step; the words that no row reads are O7's. -/
theorem stepRunsTheNextInput : Obligations.StepRunsTheNextInput :=
  ⟨fun _ _ _ _ h hd => step_of_decode_eq_some h hd, fun _ h => step_of_inputs_nil h⟩

end Sys2Proof.Machine
end

section
/-! What an instruction can do to the registers and the buffers, said once, and the two inductions over a step that every
invariant of the block uses. -/

namespace Sys2Proof.Machine

/-- The ways in which an instruction changes the registers and the buffers of the block, each with the condition under
which it does so. What the step gives out on the ports is not part of it. -/
inductive Change (s : State) : Instr → State → Prop where
  /-- A read, a refused command, an ignored event, `NOP`. -/
  | keep (i : Instr) : Change s i s
  | reset : Change s .reset (resetRegisters s)
  | crcInit : Change s .crcInit { s with crc := crcInitial }
  | crcByte (b : Byte) : Change s (.crcByte b) { s with crc := crcStep s.crc b }
  | txbWr (a : Half) (b : Byte) (unlocked : txLocked s = false) (inside : a.toNat < Config.maxLen) :
      Change s (.txbWr a b) { s with txbuf := Memory.write .txbuf s.txbuf a.toNat b }
  | txSetcmd (b : Byte) (unlocked : txLocked s = false) : Change s (.txSetcmd b) { s with tx_cmd := b }
  | txSetseq (v : Half) (unlocked : txLocked s = false) : Change s (.txSetseq v) { s with tx_seq := v }
  | txSetlen (v : Half) (unlocked : txLocked s = false) (fits : v.toNat ≤ Config.maxLen) :
      Change s (.txSetlen v) { s with tx_len := v }
  | txStart (unlocked : txLocked s = false) : Change s .txStart (startEncoder s)
  | rxFlush (inactive : s.xact_state.active = false) : Change s .rxFlush (flushDecoder s)
  | xactStart (unlocked : txLocked s = false) : Change s .xactStart (beginTransaction s)
  | xactCancel (active : s.xact_state.active = true) :
      Change s .xactCancel (huntDecoder (stopEncoder { s with xact_state := .cancelled }))
  | rxByte (b : Byte) (u : State) (received : rxByte b s = .ok u) :
      Change s (.evRxByte b) (controllerHook s.rx_state u)
  | take (b : Byte) (busy : s.tx_busy = true) (offered : frameByte s.tx_pos s = .ok b) :
      Change s .evTxTake (txAdvance (txCrcAfter b s))
  | retry (waiting : s.xact_state = .wait) (left : s.xact_attempts.toNat < 4) :
      Change s .evWindowExpire (retransmit s)
  | giveUp (waiting : s.xact_state = .wait) (spent : 4 ≤ s.xact_attempts.toNat) :
      Change s .evWindowExpire { s with xact_state := .retryFail }

/-- The next state `t` of an instruction is one of its changes, with something given out on the ports. -/
def Answers (s : State) (i : Instr) (t : State) : Prop :=
  ∃ u r e, Change s i u ∧ t = { u with response := r, emitted := e }

theorem Change.responds {s u : State} {i : Instr} (c : Change s i u) (rc : ResultCode) (v : Half) :
    Answers s i (respondState rc v u) :=
  ⟨u, _, _, c, rfl⟩

theorem Change.silently {s u : State} {i : Instr} (c : Change s i u) : Answers s i (quiet u) :=
  ⟨u, _, _, c, rfl⟩

theorem Change.emitting {s u : State} {i : Instr} (c : Change s i u) (b : Byte) : Answers s i (emit b u) :=
  ⟨u, _, _, c, rfl⟩

/-- Every next state of every instruction comes from one of the changes. -/
theorem answers_of_exec {i : Instr} {s t : State} (h : exec i s = .next t) : Answers s i t := by
  cases i with
  | nop | crcRead | txGetcmd | txGetseq | txGetlen | txStat | rxStat | rxGetcmd | rxGetseq | rxGetlen | rxGetcrc
  | rxGetcalc | xactStat => cases h; exact (Change.keep _).responds _ _
  | reset => cases h; exact Change.reset.responds _ _
  | crcInit => cases h; exact Change.crcInit.responds _ _
  | crcByte b => cases h; exact (Change.crcByte b).responds _ _
  | txbWr a b =>
    rcases execTxbWr_cases h with ⟨_, rfl⟩ | ⟨_, _, rfl⟩ | ⟨hu, ha, rfl⟩
    · exact (Change.keep _).responds _ _
    · exact (Change.keep _).responds _ _
    · exact (Change.txbWr a b hu ha).responds _ _
  | txbRd a => rcases execTxbRd_cases h with ⟨_, rfl⟩ | ⟨_, rfl⟩ <;> exact (Change.keep _).responds _ _
  | rxbRd a => rcases execRxbRd_cases h with ⟨_, rfl⟩ | ⟨_, rfl⟩ <;> exact (Change.keep _).responds _ _
  | txSetcmd b =>
    rcases execTxSetcmd_cases h with ⟨_, rfl⟩ | ⟨hu, rfl⟩
    · exact (Change.keep _).responds _ _
    · exact (Change.txSetcmd b hu).responds _ _
  | txSetseq v =>
    rcases execTxSetseq_cases h with ⟨_, rfl⟩ | ⟨hu, rfl⟩
    · exact (Change.keep _).responds _ _
    · exact (Change.txSetseq v hu).responds _ _
  | txSetlen v =>
    rcases execTxSetlen_cases h with ⟨_, rfl⟩ | ⟨_, _, rfl⟩ | ⟨hu, hv, rfl⟩
    · exact (Change.keep _).responds _ _
    · exact (Change.keep _).responds _ _
    · exact (Change.txSetlen v hu hv).responds _ _
  | txStart =>
    rcases execTxStart_cases h with ⟨_, rfl⟩ | ⟨hu, rfl⟩
    · exact (Change.keep _).responds _ _
    · exact (Change.txStart hu).responds _ _
  | rxFlush =>
    rcases execRxFlush_cases h with ⟨_, rfl⟩ | ⟨ha, rfl⟩
    · exact (Change.keep _).responds _ _
    · exact (Change.rxFlush ha).responds _ _
  | xactStart =>
    rcases execXactStart_cases h with ⟨_, rfl⟩ | ⟨hu, rfl⟩
    · exact (Change.keep _).responds _ _
    · exact (Change.xactStart hu).responds _ _
  | xactCancel =>
    rcases execXactCancel_cases h with ⟨_, rfl⟩ | ⟨ha, rfl⟩
    · exact (Change.keep _).responds _ _
    · exact (Change.xactCancel ha).responds _ _
  | evRxByte b =>
    obtain ⟨u, hu, rfl⟩ := execEvRxByte_cases h
    exact (Change.rxByte b u hu).silently
  | evTxTake =>
    rcases execEvTxTake_cases h with ⟨_, rfl⟩ | ⟨hb, b, ho, rfl⟩
    · exact (Change.keep _).silently
    · exact (Change.take b hb ho).emitting b
  | evWindowExpire =>
    rcases execEvWindowExpire_cases h with ⟨_, rfl⟩ | ⟨hw, hl, rfl⟩ | ⟨hw, hs, rfl⟩
    · exact (Change.keep _).silently
    · exact (Change.retry hw hl).silently
    · exact (Change.giveUp hw hs).silently

/-- A predicate that does not read what stands on the ports. -/
def IgnoresPorts (P : State → Prop) : Prop :=
  ∀ s ins r e, P s → P { s with inputs := ins, response := r, emitted := e }

/-- What every change keeps and the ports do not matter for, every step keeps. -/
theorem step_preserves {P : State → Prop} (hports : IgnoresPorts P)
    (hchange : ∀ {s i u}, Change s i u → P s → P u) {s t : State} (h : step s = .next t) (hs : P s) : P t := by
  rcases step_cases h with ⟨_, rfl⟩ | ⟨x, rest, _, ⟨i, _, hi⟩ | ⟨_, _, rfl⟩ | ⟨_, _, rfl⟩⟩
  · exact hports s _ _ _ hs
  · obtain ⟨u, r, e, hc, rfl⟩ := answers_of_exec hi
    exact hports u u.inputs r e (hchange hc (hports s rest s.response s.emitted hs))
  · exact hports s rest _ _ hs
  · exact hports s rest _ _ hs

end Sys2Proof.Machine
end

section
/-! The invariants of 10_state.md R39, kept by each operation under an instruction (O55, O54). -/

namespace Sys2Proof.Machine

theorem codecInv_ignoresPorts : IgnoresPorts CodecInv := fun _ _ _ _ h => { h with }

theorem CodecInv.resetRegisters {s : State} (h : CodecInv s) : CodecInv (resetRegisters s) where
  tx_len_le := Nat.zero_le _
  send_busy := nofun
  wait_idle := nofun
  attempts_range := nofun
  tx_pos_le := nofun
  header_pos := nofun
  body_pos := nofun
  other_pos _ _ := rfl
  txbuf_wf := h.txbuf_wf
  rxbuf_wf := h.rxbuf_wf

/-! ## The encoder and the controller -/

theorem CodecInv.startEncoder {s : State} (h : CodecInv s) (hw : s.xact_state ≠ .wait) : CodecInv (startEncoder s) :=
  { h with
    send_busy := fun _ => rfl
    wait_idle := fun hs => absurd hs hw
    tx_pos_le := fun _ => Nat.zero_le _ }

/-- A transmission of a transaction begins: the first one or a retry. -/
theorem CodecInv.startAttempt {s : State} (h : CodecInv s) {n : BitVec 3} (hn : 1 ≤ n.toNat ∧ n.toNat ≤ 4) :
    CodecInv (Machine.startEncoder { s with xact_state := .send, xact_attempts := n }) :=
  { h with
    send_busy := fun _ => rfl
    wait_idle := nofun
    attempts_range := fun _ => hn
    tx_pos_le := fun _ => Nat.zero_le _ }

/-- The encoder goes idle, and the controller leaves `SEND`. -/
theorem CodecInv.stopEncoder {s : State} (h : CodecInv s) {x : XactState} (hx : x ≠ .send)
    (hw : x = .wait → s.xact_state.active = true) : CodecInv (stopEncoder { s with xact_state := x }) :=
  { h with
    send_busy := fun hs => absurd hs hx
    wait_idle := fun _ => rfl
    attempts_range := fun hs => h.attempts_range ((XactState.active_eq_true _).1 (hw (hs.resolve_left hx)))
    tx_pos_le := nofun }

/-- The controller goes to a state without a transaction, and the encoder goes on. -/
theorem CodecInv.endTransaction {s : State} (h : CodecInv s) {x : XactState} (hx : x.active = false) :
    CodecInv { s with xact_state := x } := by
  obtain ⟨hsend, hwait⟩ := (XactState.active_eq_false x).1 hx
  exact { h with
    send_busy := fun hs => absurd hs hsend
    wait_idle := fun hs => absurd hs hwait
    attempts_range := fun hs => (hs.elim hsend hwait).elim }

@[simp] theorem txCrcAfter_tx_busy (b : Byte) (s : State) : (txCrcAfter b s).tx_busy = s.tx_busy := by
  unfold txCrcAfter
  split <;> rfl

theorem CodecInv.txCrcAfter {s : State} (h : CodecInv s) (b : Byte) : CodecInv (txCrcAfter b s) := by
  unfold Machine.txCrcAfter
  split
  · exact { h with }
  · exact h

theorem CodecInv.txAdvance {s : State} (h : CodecInv s) (hb : s.tx_busy = true) : CodecInv (txAdvance s) := by
  have hpos := h.tx_pos_le hb
  unfold Machine.txAdvance openWindow
  split_ifs with hlast hsend
  · exact h.stopEncoder (x := .wait) nofun fun _ => (XactState.active_eq_true _).2 (.inl hsend)
  · exact h.stopEncoder hsend fun hw => (XactState.active_eq_true _).2 (.inr hw)
  · exact { h with tx_pos_le := fun _ => by show s.tx_pos + 1 ≤ s.tx_len.toNat + 7; omega }

/-! ## The decoder -/

theorem CodecInv.huntDecoder {s : State} (h : CodecInv s) : CodecInv (huntDecoder s) :=
  { h with header_pos := nofun, body_pos := nofun, other_pos := fun _ _ => rfl }

theorem CodecInv.flushDecoder {s : State} (h : CodecInv s) : CodecInv (flushDecoder s) :=
  { h with header_pos := nofun, body_pos := nofun, other_pos := fun _ _ => rfl }

theorem CodecInv.rxHunt {s : State} (h : CodecInv s) (b : Byte) : CodecInv (rxHunt b s) := by
  rcases rxHunt_cases b s with ⟨_, he⟩ | ⟨_, he⟩ <;> rw [he]
  · exact h
  · exact { h with header_pos := fun _ => Nat.zero_le _, body_pos := nofun, other_pos := fun hh => absurd rfl hh }

/-- A header byte that is not the last: only the position matters to the invariants. -/
theorem CodecInv.headerByte {s : State} (h : CodecInv s) (hs : s.rx_state = .header) {p : Nat} (hp : p ≤ 4)
    (cmd : Byte) (seq len clc : Half) :
    CodecInv { s with rx_crc_calc := clc, rx_cmd := cmd, rx_seq := seq, rx_len := len, rx_pos := p } :=
  { h with
    header_pos := fun _ => hp
    body_pos := fun hb => absurd (hs.symm.trans hb) nofun
    other_pos := fun hh => absurd hs hh }

theorem CodecInv.rxCheckLen {s : State} (h : CodecInv s) (clc len : Half) :
    CodecInv (rxCheckLen { s with rx_crc_calc := clc, rx_len := len }) := by
  rcases rxCheckLen_cases { s with rx_crc_calc := clc, rx_len := len } with ⟨_, he⟩ | ⟨hl, he⟩ <;> rw [he]
  · exact { h with header_pos := nofun, body_pos := nofun, other_pos := fun _ _ => rfl }
  · exact { h with
      header_pos := nofun, body_pos := fun _ => ⟨hl, Nat.zero_le _⟩, other_pos := fun _ hb => absurd rfl hb }

theorem CodecInv.rxHeader {s t : State} {b : Byte} (h : CodecInv s) (hs : s.rx_state = .header)
    (ht : rxHeader b s = .ok t) : CodecInv t := by
  rcases rxHeader_cases ht with ⟨_, rfl⟩ | ⟨_, rfl⟩ | ⟨_, rfl⟩ | ⟨_, rfl⟩ | ⟨_, rfl⟩
  · exact h.headerByte hs (by decide) _ _ _ _
  · exact h.headerByte hs (by decide) _ _ _ _
  · exact h.headerByte hs (by decide) _ _ _ _
  · exact h.headerByte hs (by decide) _ _ _ _
  · exact h.rxCheckLen _ _

/-- A payload byte at its position, or the high CRC byte after the last one. -/
theorem CodecInv.bodyByte {s : State} (h : CodecInv s) (hs : s.rx_state = .body) (hp : s.rx_pos ≤ s.rx_len.toNat)
    {m : Memory} (hm : Memory.wf .rxbuf m = true) (rcv clc : Half) :
    CodecInv { s with rxbuf := m, rx_crc_rcv := rcv, rx_crc_calc := clc, rx_pos := s.rx_pos + 1 } :=
  { h with
    header_pos := fun hh => absurd (hs.symm.trans hh) nofun
    body_pos := fun _ => ⟨(h.body_pos hs).1, Nat.succ_le_succ hp⟩
    other_pos := fun _ hb => absurd hs hb
    rxbuf_wf := hm }

theorem CodecInv.rxCrcLo {s : State} (h : CodecInv s) (b : Byte) : CodecInv (rxCrcLo b s) := by
  unfold Machine.rxCrcLo
  split
  · exact { h with header_pos := nofun, body_pos := nofun, other_pos := fun _ _ => rfl }
  · exact { h with header_pos := nofun, body_pos := nofun, other_pos := fun _ _ => rfl }

theorem CodecInv.rxBody {s t : State} {b : Byte} (h : CodecInv s) (hs : s.rx_state = .body)
    (ht : rxBody b s = .ok t) : CodecInv t := by
  rcases rxBody_cases ht with ⟨hp, hm, rfl⟩ | ⟨hp, rfl⟩ | ⟨_, rfl⟩
  · exact h.bodyByte hs hp.le (Memory.write_wf _ _ _ _ hm h.rxbuf_wf) _ _
  · exact h.bodyByte hs hp.le h.rxbuf_wf _ _
  · exact h.rxCrcLo b

theorem CodecInv.rxByte {s t : State} {b : Byte} (h : CodecInv s) (ht : rxByte b s = .ok t) : CodecInv t := by
  rcases rxByte_cases ht with ⟨_, rfl⟩ | ⟨hs, ht⟩ | ⟨hs, ht⟩ | ⟨_, rfl⟩
  · exact h.rxHunt b
  · exact h.rxHeader hs ht
  · exact h.rxBody hs ht
  · exact { h with }

theorem CodecInv.controllerHook {s : State} (h : CodecInv s) (before : RxState) :
    CodecInv (controllerHook before s) := by
  rcases controllerHook_cases before s with
    he | ⟨_, _, ⟨_, _, he⟩ | ⟨_, _, he⟩ | ⟨_, he⟩ | ⟨_, he⟩⟩ <;> rw [he]
  · exact h
  · exact h.huntDecoder
  · exact h.endTransaction rfl
  · exact h.endTransaction rfl
  · exact h.endTransaction rfl

/-! ## Every instruction, every step -/

theorem Change.codecInv {s u : State} {i : Instr} (c : Change s i u) (h : CodecInv s) : CodecInv u := by
  cases c with
  | keep => exact h
  | reset => exact h.resetRegisters
  | crcInit | crcByte | txSetcmd | txSetseq => exact { h with }
  | txbWr a b _ inside => exact { h with txbuf_wf := Memory.write_wf _ _ _ _ inside h.txbuf_wf }
  | txSetlen v unlocked fits =>
    obtain ⟨hidle, _, _⟩ := (txLocked_eq_false s).1 unlocked
    exact { h with tx_len_le := fits, tx_pos_le := fun hb => absurd (hidle.symm.trans hb) nofun }
  | txStart unlocked => exact h.startEncoder ((txLocked_eq_false s).1 unlocked).2.2
  | rxFlush => exact h.flushDecoder
  | xactStart => exact (h.startAttempt (by decide)).flushDecoder
  | xactCancel => exact (h.stopEncoder (x := .cancelled) nofun nofun).huntDecoder
  | rxByte b u received => exact (h.rxByte received).controllerHook _
  | take b busy =>
    rw [← txCrcAfter_tx_busy b s] at busy
    exact (h.txCrcAfter b).txAdvance busy
  | retry waiting left =>
    have hn : (s.xact_attempts + 1#3).toNat = s.xact_attempts.toNat + 1 := by bv_omega
    exact (h.startAttempt (by omega)).flushDecoder
  | giveUp => exact h.endTransaction rfl

/-- Settles O55: each change keeps the invariants, and they do not read the ports. -/
theorem stepKeepsTheInvariants : Obligations.StepKeepsTheInvariants :=
  fun _ _ hs h => step_preserves codecInv_ignoresPorts Change.codecInv h hs

end Sys2Proof.Machine
end

section
/-! What the decoder's registers say of the bytes received (10_state.md R33, 42_rx_decoder.md R158, R160), kept by each
operation under an instruction (O36), and the power-on state (O54). -/

namespace Sys2Proof.Machine

/-! ## The CRC and the buffer, one byte longer -/

theorem crc16_append_singleton (bytes : List Byte) (b : Byte) : crc16 (bytes ++ [b]) = crcStep (crc16 bytes) b :=
  List.foldl_append

@[simp] theorem bufPrefix_zero (n : BufName) (m : Memory) : bufPrefix n m 0 = [] := rfl

theorem bufPrefix_succ (n : BufName) (m : Memory) (len : Nat) :
    bufPrefix n m (len + 1) = bufPrefix n m len ++ [Memory.read n m len] := by
  simp [bufPrefix, List.range_succ]

/-- A byte stored at or above the address `len` is not among the first `len` bytes. -/
theorem bufPrefix_write_of_le (n : BufName) (m : Memory) {len a : Nat} (b : Byte) (h : len ≤ a) :
    bufPrefix n (Memory.write n m a b) len = bufPrefix n m len :=
  List.map_congr_left fun k hk =>
    Memory.read_write_other n m a k b (Nat.ne_of_lt (Nat.lt_of_lt_of_le (List.mem_range.1 hk) h))

/-- A byte stored right after the first `a` bytes comes next in the list. -/
theorem bufPrefix_write_succ (n : BufName) (m : Memory) (a : Nat) (b : Byte) :
    bufPrefix n (Memory.write n m a b) (a + 1) = bufPrefix n m a ++ [b] := by
  rw [bufPrefix_succ, bufPrefix_write_of_le n m b (Nat.le_refl a), Memory.read_write_same]

/-! ## The bytes covered so far, by the decoder's state -/

theorem rxCovered_of_header {s : State} (h : s.rx_state = .header) :
    rxCovered s = (frameHeader s.rx_cmd s.rx_seq s.rx_len).take s.rx_pos := by
  simp only [rxCovered, h]

theorem rxCovered_of_body {s : State} (h : s.rx_state = .body) :
    rxCovered s = frameHeader s.rx_cmd s.rx_seq s.rx_len ++ bufPrefix .rxbuf s.rxbuf (min s.rx_pos s.rx_len.toNat) := by
  simp only [rxCovered, h]

/-! ## The decoder's operations -/

theorem rxTracks_ignoresPorts : IgnoresPorts RxTracks := fun _ _ _ _ h => { h with }

/-- In `HUNT` the registers say nothing. -/
theorem RxTracks.of_hunt {s : State} (h : s.rx_state = .hunt) : RxTracks s where
  calc_is_crc hn := absurd h hn
  valid_equal hv := absurd (h.symm.trans hv) nofun
  crcErr_differs hc := absurd (h.symm.trans hc) nofun
  lenErr_long hl := absurd (h.symm.trans hl) nofun
  ended_fits he := by rcases he with he | he <;> exact absurd (h.symm.trans he) nofun

/-- Inside a frame only the running CRC is claimed. -/
theorem RxTracks.of_receiving {s : State} (h : s.rx_state = .header ∨ s.rx_state = .body)
    (hc : s.rx_crc_calc = crc16 (rxCovered s)) : RxTracks s where
  calc_is_crc _ := hc
  valid_equal hv := by rcases h with h | h <;> exact absurd (h.symm.trans hv) nofun
  crcErr_differs he := by rcases h with h | h <;> exact absurd (h.symm.trans he) nofun
  lenErr_long hl := by rcases h with h | h <;> exact absurd (h.symm.trans hl) nofun
  ended_fits he := by rcases h with h | h <;> rcases he with he | he <;> exact absurd (h.symm.trans he) nofun

theorem RxTracks.rxHunt {s : State} (h : RxTracks s) (b : Byte) : RxTracks (rxHunt b s) := by
  rcases rxHunt_cases b s with ⟨_, he⟩ | ⟨_, he⟩ <;> rw [he]
  · exact h
  · exact .of_receiving (.inl rfl) rfl

/-- The running CRC after one byte more, in terms of the list of bytes covered then. -/
theorem RxTracks.crcStep_calc {s : State} (h : RxTracks s) (hs : s.rx_state ≠ .hunt) {b : Byte} {bytes : List Byte}
    (hb : bytes = rxCovered s ++ [b]) : crcStep s.rx_crc_calc b = crc16 bytes := by
  rw [hb, crc16_append_singleton, h.calc_is_crc hs]

/-- After the fifth header byte, with the CRC of the whole header. -/
theorem RxTracks.rxCheckLen {s : State} (hc : s.rx_crc_calc = crc16 (frameHeader s.rx_cmd s.rx_seq s.rx_len)) :
    RxTracks (rxCheckLen s) := by
  rcases rxCheckLen_cases s with ⟨hl, he⟩ | ⟨_, he⟩ <;> rw [he]
  · exact ⟨fun _ => hc, nofun, nofun, fun _ => hl, nofun⟩
  · exact .of_receiving (.inr rfl) (by simpa [rxCovered_of_body] using hc)

/-- A header byte that is not the last: it entered the CRC and is the next byte of the header. -/
theorem RxTracks.headerByte {s t : State} {b : Byte} (h : RxTracks s) (hs : s.rx_state = .header)
    (ht : t.rx_state = .header) (hc : t.rx_crc_calc = crcStep s.rx_crc_calc b)
    (hb : (frameHeader t.rx_cmd t.rx_seq t.rx_len).take t.rx_pos =
      (frameHeader s.rx_cmd s.rx_seq s.rx_len).take s.rx_pos ++ [b]) : RxTracks t := by
  refine .of_receiving (.inl ht) (hc.trans (h.crcStep_calc (by simp [hs]) ?_))
  rw [rxCovered_of_header ht, rxCovered_of_header hs, hb]

theorem RxTracks.rxHeader {s t : State} {b : Byte} (h : RxTracks s) (hs : s.rx_state = .header)
    (ht : rxHeader b s = .ok t) : RxTracks t := by
  rcases rxHeader_cases ht with ⟨hp, rfl⟩ | ⟨hp, rfl⟩ | ⟨hp, rfl⟩ | ⟨hp, rfl⟩ | ⟨hp, rfl⟩
  · exact h.headerByte hs hs rfl (by simp [hp, frameHeader])
  · exact h.headerByte hs hs rfl (by simp [hp, frameHeader])
  · exact h.headerByte hs hs rfl (by simp [hp, frameHeader])
  · exact h.headerByte hs hs rfl (by simp [hp, frameHeader])
  · exact .rxCheckLen (h.crcStep_calc (by simp [hs]) (by simp [rxCovered_of_header hs, hp, frameHeader]))

theorem RxTracks.rxCrcLo {s : State} (h : RxTracks s) (hs : s.rx_state = .body) (hp : s.rx_pos = s.rx_len.toNat + 1)
    (hl : s.rx_len.toNat ≤ Config.maxLen) (b : Byte) : RxTracks (rxCrcLo b s) := by
  have hc : s.rx_crc_calc = crc16 (frameHeader s.rx_cmd s.rx_seq s.rx_len ++ bufPrefix .rxbuf s.rxbuf s.rx_len.toNat) := by
    rw [h.calc_is_crc (by simp [hs]), rxCovered_of_body hs, hp, Nat.min_eq_right (Nat.le_succ _)]
  unfold Machine.rxCrcLo
  split_ifs with heq
  · exact ⟨fun _ => hc, fun _ => heq, nofun, nofun, fun _ => hl⟩
  · exact ⟨fun _ => hc, nofun, fun _ => heq, nofun, fun _ => hl⟩

theorem RxTracks.rxBody {s t : State} {b : Byte} (h : RxTracks s) (hi : CodecInv s) (hs : s.rx_state = .body)
    (ht : rxBody b s = .ok t) : RxTracks t := by
  have hn : s.rx_state ≠ .hunt := by simp [hs]
  rcases rxBody_cases ht with ⟨hp, _, rfl⟩ | ⟨hp, rfl⟩ | ⟨hp, rfl⟩
  · have hmin : min (s.rx_pos + 1) s.rx_len.toNat = s.rx_pos + 1 := Nat.min_eq_left hp
    refine .of_receiving (.inr hs) (h.crcStep_calc hn ?_)
    simp [rxCovered_of_body, hs, hmin, Nat.min_eq_left hp.le, bufPrefix_write_succ]
  · refine .of_receiving (.inr hs) ((h.calc_is_crc hn).trans ?_)
    simp [rxCovered_of_body, rxCrcHi, hs, hp]
  · exact h.rxCrcLo hs hp (hi.body_pos hs).1 b

theorem RxTracks.rxByte {s t : State} {b : Byte} (h : RxTracks s) (hi : CodecInv s) (ht : rxByte b s = .ok t) :
    RxTracks t := by
  rcases rxByte_cases ht with ⟨_, rfl⟩ | ⟨hs, ht⟩ | ⟨hs, ht⟩ | ⟨_, rfl⟩
  · exact h.rxHunt b
  · exact h.rxHeader hs ht
  · exact h.rxBody hi hs ht
  · exact { h with }

theorem RxTracks.controllerHook {s : State} (h : RxTracks s) (before : RxState) :
    RxTracks (controllerHook before s) := by
  rcases controllerHook_cases before s with
    he | ⟨_, _, ⟨_, _, he⟩ | ⟨_, _, he⟩ | ⟨_, he⟩ | ⟨_, he⟩⟩ <;> rw [he]
  · exact h
  · exact .of_hunt rfl
  · exact { h with }
  · exact { h with }
  · exact { h with }

/-! ## Every instruction, every step -/

theorem Change.rxTracks {s u : State} {i : Instr} (c : Change s i u) (hi : CodecInv s) (h : RxTracks s) : RxTracks u := by
  cases c with
  | keep => exact h
  | reset | rxFlush | xactStart | xactCancel | retry => exact .of_hunt rfl
  | crcInit | crcByte | txbWr | txSetcmd | txSetseq | txSetlen | txStart | giveUp => exact { h with }
  | rxByte b u received => exact (h.rxByte hi received).controllerHook _
  | take b => rw [txAdvance_txCrcAfter]; exact { h with }

/-- Settles O36, by the step induction for the two invariants together: O55's gives the length of an ended frame. -/
theorem rxRegistersTrackTheFrame : Obligations.RxRegistersTrackTheFrame := fun _ _ hi hr h =>
  (step_preserves (P := fun s => CodecInv s ∧ RxTracks s)
    (fun s ins r e hs => ⟨codecInv_ignoresPorts s ins r e hs.1, rxTracks_ignoresPorts s ins r e hs.2⟩)
    (fun c hs => ⟨c.codecInv hs.1, c.rxTracks hs.1 hs.2⟩) h ⟨hi, hr⟩).2

/-- Settles O54: nothing is under way after power-on, and the buffers list nothing. -/
theorem powerOnStateMeetsTheInvariants : Obligations.PowerOnStateMeetsTheInvariants where
  left :=
    { tx_len_le := Nat.zero_le _
      send_busy := nofun
      wait_idle := nofun
      attempts_range := nofun
      tx_pos_le := nofun
      header_pos := nofun
      body_pos := nofun
      other_pos := fun _ _ => rfl
      txbuf_wf := Memory.wf_nil _
      rxbuf_wf := Memory.wf_nil _ }
  right := ⟨nofun, .of_hunt rfl⟩

end Sys2Proof.Machine
end

section
/-! Which registers the RX line's event leaves alone, and which instruction writes what (O53). -/

namespace Sys2Proof.Machine

/-- What the controller's hook leaves alone. -/
theorem controllerHook_frame (before : RxState) (s : State) :
    (controllerHook before s).crc = s.crc ∧ (controllerHook before s).tx_cmd = s.tx_cmd ∧
      (controllerHook before s).tx_seq = s.tx_seq ∧ (controllerHook before s).tx_len = s.tx_len ∧
      (controllerHook before s).tx_busy = s.tx_busy ∧ (controllerHook before s).tx_pos = s.tx_pos ∧
      (controllerHook before s).tx_crc = s.tx_crc ∧ (controllerHook before s).xact_attempts = s.xact_attempts ∧
      (controllerHook before s).rx_ovr = s.rx_ovr ∧ (controllerHook before s).txbuf = s.txbuf ∧
      (controllerHook before s).inputs = s.inputs := by
  rcases controllerHook_cases before s with
    he | ⟨_, _, ⟨_, _, he⟩ | ⟨_, _, he⟩ | ⟨_, he⟩ | ⟨_, he⟩⟩ <;> simp [he]

/-- A received byte never clears the overrun flag (42_rx_decoder.md R153). -/
theorem rxByte_rx_ovr {b : Byte} {s t : State} (h : rxByte b s = .ok t) : t.rx_ovr = s.rx_ovr ∨ t.rx_ovr = true := by
  rcases rxByte_cases h with ⟨_, rfl⟩ | ⟨_, h⟩ | ⟨_, h⟩ | ⟨_, rfl⟩
  · rcases rxHunt_cases b s with ⟨_, he⟩ | ⟨_, he⟩ <;> exact .inl (by rw [he])
  · rcases rxHeader_cases h with ⟨_, rfl⟩ | ⟨_, rfl⟩ | ⟨_, rfl⟩ | ⟨_, rfl⟩ | ⟨_, rfl⟩
    · exact .inl rfl
    · exact .inl rfl
    · exact .inl rfl
    · exact .inl rfl
    · unfold rxCheckLen; split_ifs <;> exact .inl rfl
  · rcases rxBody_cases h with ⟨_, _, rfl⟩ | ⟨_, rfl⟩ | ⟨_, rfl⟩ <;> exact .inl rfl
  · exact .inr rfl

/-- Settles O53, by the change the instruction makes: each writes its own registers, and the RX line's event only the
decoder's and, through the hook, the controller's. -/
theorem onlyTheirInstructionsWriteTheState : Obligations.OnlyTheirInstructionsWriteTheState := by
  intro i s t h
  obtain ⟨u, r, e, c, rfl⟩ := answers_of_exec h
  clear h
  cases c with
  | keep | reset | crcInit | crcByte | txbWr | txSetcmd | txSetseq | txSetlen | txStart | rxFlush | xactCancel
  | giveUp => simp
  | xactStart => simp [beginTransaction]
  | retry => simp [retransmit]
  | take =>
    rw [txAdvance_txCrcAfter]
    by_cases hlast : s.tx_pos = 7 + s.tx_len.toNat
    · simp [hlast]
    · simp [hlast]
  | rxByte b v received =>
    simpa [controllerHook_frame, rxByte_frame received] using (rxByte_rx_ovr received).resolve_left

end Sys2Proof.Machine
end

section
/-! The status words bit by bit (10_state.md R34, R35, R38), and a host opcode read off its row of the decoder (O23). -/

namespace Sys2Proof.Machine

/-- A row of the host decoder that holds for every operand is what its opcode means in any word. -/
theorem hostWord_of_decodeHostFields {op : Byte} {f : Half → Byte → Instr}
    (h : ∀ a d, decodeHostFields op a d = some (f a d)) : Expect.hostWord op f := by
  intro w hw
  rw [← hw] at h
  exact h _ _

theorem RxState.toNat_code (x : RxState) : x.code.toNat = Expect.rxCode x := by cases x <;> rfl

theorem XactState.toNat_code (x : XactState) : x.code.toNat = Expect.xactCode x := by cases x <;> rfl

@[simp] theorem getLsbD_zextBit (b : Bool) (k : Nat) : (zextBit b).getLsbD k = (decide (k = 0) && b) := by
  cases k <;> simp [zextBit]

/-! ## A word with one field shifted over a 3-bit code -/

theorem extractLsb'_code (x : Half) (c : BitVec 3) {m : Nat} (hm : 3 ≤ m) :
    (x <<< m ||| c.setWidth 16).extractLsb' 0 3 = c := by
  ext i hi
  have h1 : i < m := by omega
  have h2 : i < 16 := by omega
  simp [h1, h2, BitVec.getLsbD_eq_getElem hi]

theorem getLsbD_above_code (x : Half) (c : BitVec 3) (m : Nat) {k : Nat} (hk : 3 ≤ k) :
    (x <<< m ||| c.setWidth 16).getLsbD k = (decide (k < 16) && !decide (k < m) && x.getLsbD (k - m)) := by
  simp [BitVec.getLsbD_of_ge c k hk]

/-! ## The three words -/

theorem txStatWord_getLsbD (s : State) (k : Nat) :
    (txStatWord s).getLsbD k = (decide (k = 0) && s.tx_busy || decide (k = 1) && txLocked s) := by
  rcases k with _ | _ | k <;> simp [txStatWord, -BitVec.getLsbD_eq_getElem]

theorem rxStatWord_code (s : State) : ((rxStatWord s).extractLsb' 0 3).toNat = Expect.rxCode s.rx_state := by
  rw [rxStatWord, extractLsb'_code _ _ (Nat.le_refl 3), RxState.toNat_code]

theorem rxStatWord_getLsbD (s : State) {k : Nat} (hk : 3 ≤ k) :
    (rxStatWord s).getLsbD k = (decide (k = 3) && s.rx_ovr) := by
  have h0 : k - 3 = 0 ↔ k = 3 := by omega
  rw [rxStatWord, getLsbD_above_code _ _ _ hk, getLsbD_zextBit]
  by_cases h : k = 3
  · simp [h]
  · simp [h0, h]

theorem xactStatWord_code (s : State) : ((xactStatWord s).extractLsb' 0 3).toNat = Expect.xactCode s.xact_state := by
  rw [xactStatWord, extractLsb'_code _ _ (by decide), XactState.toNat_code]

theorem xactStatWord_bit_three (s : State) : (xactStatWord s).getLsbD 3 = false :=
  getLsbD_above_code _ _ _ (Nat.le_refl 3)

theorem xactStatWord_attempts (s : State) : (xactStatWord s).extractLsb' 4 3 = s.xact_attempts := by
  ext i hi
  have h1 : 4 + i < 16 := by omega
  have h2 : i < 16 := by omega
  rw [BitVec.getElem_extractLsb', xactStatWord, getLsbD_above_code _ _ _ (by omega)]
  simp [h1, h2, BitVec.getLsbD_eq_getElem hi]

theorem xactStatWord_getLsbD_of_le (s : State) {k : Nat} (hk : 7 ≤ k) : (xactStatWord s).getLsbD k = false := by
  rw [xactStatWord, getLsbD_above_code _ _ _ (by omega)]
  simp [BitVec.getLsbD_of_ge s.xact_attempts (k - 4) (by omega)]

/-- Settles O23: each command answers its word, whose bits are those of the layouts. -/
theorem statusWordLayouts : Obligations.StatusWordLayouts := by
  refine ⟨fun s => ⟨⟨txStatWord s, rfl, ?_, ?_, fun k hk => ?_⟩,
      ⟨rxStatWord s, rfl, rxStatWord_code s, rxStatWord_getLsbD s (Nat.le_refl 3), fun k hk => ?_⟩,
      ⟨xactStatWord s, rfl, xactStatWord_code s, xactStatWord_bit_three s, xactStatWord_attempts s,
        fun _ hk => xactStatWord_getLsbD_of_le s hk⟩⟩,
    rfl, rfl, rfl, hostWord_of_decodeHostFields fun _ _ => rfl, hostWord_of_decodeHostFields fun _ _ => rfl,
    hostWord_of_decodeHostFields fun _ _ => rfl⟩
  · rw [txStatWord_getLsbD]; simp
  · rw [txStatWord_getLsbD]; simp [Expect.locked, txLocked_eq_true]
  · rw [txStatWord_getLsbD]; simp [show k ≠ 0 by omega, show k ≠ 1 by omega]
  · rw [rxStatWord_getLsbD s (by omega)]; simp [show k ≠ 3 by omega]

end Sys2Proof.Machine
end

section
/-! A buffer in canonical form is a function of what it reads as (20_memory.md R50, R51, R53; O57). -/

namespace Sys2Proof.Machine

theorem Memory.wfFrom_cons (n : BufName) (lo k : Nat) (v : Byte) (m : Memory) :
    Memory.wfFrom n lo ((k, v) :: m) = true ↔
      lo ≤ k ∧ k < Config.maxLen ∧ v ≠ Config.bufInit n k ∧ Memory.wfFrom n (k + 1) m = true := by
  simp [Memory.wfFrom, and_assoc]

theorem Memory.read_cons (n : BufName) (k : Nat) (v : Byte) (m : Memory) (a : Nat) :
    Memory.read n ((k, v) :: m) a = if a = k then v else Memory.read n m a := by
  unfold Memory.read
  rw [Memory.lookup]
  split_ifs <;> rfl

/-- Every address listed lies at or above the one where the canonical form starts. -/
theorem Memory.le_of_mem {n : BufName} {lo : Nat} {m : Memory} (h : Memory.wfFrom n lo m = true) {e : Host.Cell}
    (he : e ∈ m) : lo ≤ e.1 := by
  induction m generalizing lo with
  | nil => cases he
  | cons f m ih =>
    obtain ⟨hlo, _, _, hm⟩ := (Memory.wfFrom_cons n lo f.1 f.2 m).1 h
    rcases List.mem_cons.1 he with rfl | he
    · exact hlo
    · have := ih hm he
      omega

/-- The canonical form lists its addresses in rising order. -/
theorem Memory.pairwise_lt {n : BufName} {lo : Nat} {m : Memory} (h : Memory.wfFrom n lo m = true) :
    m.Pairwise fun e f => e.1 < f.1 := by
  induction m generalizing lo with
  | nil => exact .nil
  | cons e m ih =>
    obtain ⟨_, _, _, hm⟩ := (Memory.wfFrom_cons n lo e.1 e.2 m).1 h
    exact .cons (fun f hf => Memory.le_of_mem hm hf) (ih hm)

theorem Memory.nodup {n : BufName} {lo : Nat} {m : Memory} (h : Memory.wfFrom n lo m = true) : m.Nodup :=
  (Memory.pairwise_lt h).imp fun hlt he => hlt.ne (congrArg Prod.fst he)

/-- The entries of the canonical form are the addresses of the buffer that read otherwise than `BUF_INIT`, each with the
byte that is read there. -/
theorem Memory.mem_iff_read {n : BufName} {lo : Nat} {m : Memory} (h : Memory.wfFrom n lo m = true) (a : Nat) (b : Byte) :
    (a, b) ∈ m ↔ a < Config.maxLen ∧ b = Memory.read n m a ∧ b ≠ Config.bufInit n a := by
  induction m generalizing lo with
  | nil => simp
  | cons e m ih =>
    obtain ⟨k, v⟩ := e
    obtain ⟨_, hk, hv, hm⟩ := (Memory.wfFrom_cons n lo k v m).1 h
    rw [List.mem_cons, Memory.read_cons, Prod.mk.injEq]
    by_cases hak : a = k
    · subst hak
      have hnot : (a, b) ∉ m := fun he => Nat.not_succ_le_self a (Memory.le_of_mem hm he)
      simp only [hnot, hk, or_false, true_and, if_true]
      exact ⟨fun hb => ⟨hb, hb ▸ hv⟩, And.left⟩
    · simp only [hak, false_and, false_or, if_false]
      exact ih hm

/-- Settles O57: both lists have the same entries, and both are in rising order. -/
theorem equalBuffersAreEqualData : Obligations.EqualBuffersAreEqualData := by
  intro n m m' h h' heq
  have hmem : ∀ e, e ∈ m ↔ e ∈ m' := by
    rintro ⟨a, b⟩
    rw [Memory.mem_iff_read h, Memory.mem_iff_read h']
    exact and_congr_right fun ha => by rw [heq a ha]
  have hperm : m.Perm m' := (List.perm_ext_iff_of_nodup (Memory.nodup h) (Memory.nodup h')).2 hmem
  exact hperm.eq_of_pairwise (fun _ _ _ _ hlt hgt => absurd hgt hlt.asymm) (Memory.pairwise_lt h) (Memory.pairwise_lt h')

end Sys2Proof.Machine
end

section
/-! While the configuration is locked, the request stays (20_memory.md R65, 41_tx_encoder.md R122; O45). -/

namespace Sys2Proof.Machine

/-- The frame to send is made of the three TX registers and `TXBUF`. -/
theorem requestFrame_congr {s t : State} (hcmd : t.tx_cmd = s.tx_cmd) (hseq : t.tx_seq = s.tx_seq)
    (hlen : t.tx_len = s.tx_len) (hbuf : t.txbuf = s.txbuf) : requestFrame t = requestFrame s := by
  simp only [requestFrame, txPayload, hcmd, hseq, hlen, hbuf]

/-- The changes that write the TX configuration are made only while it is not locked, `RESET` apart. -/
theorem Change.request_eq {s u : State} {i : Instr} (c : Change s i u) (locked : txLocked s = true) (hi : i ≠ .reset) :
    u.tx_cmd = s.tx_cmd ∧ u.tx_seq = s.tx_seq ∧ u.tx_len = s.tx_len ∧ u.txbuf = s.txbuf := by
  cases c with
  | reset => exact absurd rfl hi
  | txbWr _ _ unlocked | txSetcmd _ unlocked | txSetseq _ unlocked | txSetlen _ unlocked =>
    exact absurd (locked.symm.trans unlocked) nofun
  | keep | crcInit | crcByte | txStart | rxFlush | xactStart | xactCancel | retry | giveUp => exact ⟨rfl, rfl, rfl, rfl⟩
  | take => rw [txAdvance_txCrcAfter]; exact ⟨rfl, rfl, rfl, rfl⟩
  | rxByte b v received => simp [controllerHook_frame, rxByte_frame received]

/-- Settles O45, by the change the instruction makes. -/
theorem lockKeepsTheRequest : Obligations.LockKeepsTheRequest := by
  intro i s t h hl hi
  obtain ⟨u, r, e, c, rfl⟩ := answers_of_exec h
  obtain ⟨hcmd, hseq, hlen, hbuf⟩ := c.request_eq ((txLocked_eq_true s).2 hl) hi
  exact ⟨hcmd, hseq, hlen, hbuf, requestFrame_congr hcmd hseq hlen hbuf⟩

end Sys2Proof.Machine
end

section
/-! Which instructions answer, and in which states: the reads always (20_memory.md R55; O50), every input in a state that
meets the invariants (O56). -/

namespace Sys2Proof.Machine

/-! ## Buffer accesses: the address is checked before the byte is touched, so the fault of R53 is out of reach -/

theorem execTxbRd_eq_respond (a : Half) (s : State) : ∃ rc v, execTxbRd a s = respond rc v s := by
  unfold execTxbRd
  split_ifs with ha
  · exact ⟨_, _, rfl⟩
  · rw [memRead_of_lt _ _ _ (Nat.lt_of_not_le ha)]
    exact ⟨_, _, rfl⟩

theorem execRxbRd_eq_respond (a : Half) (s : State) : ∃ rc v, execRxbRd a s = respond rc v s := by
  unfold execRxbRd
  split_ifs with ha
  · exact ⟨_, _, rfl⟩
  · rw [memRead_of_lt _ _ _ (Nat.lt_of_not_le ha)]
    exact ⟨_, _, rfl⟩

theorem execTxbWr_eq_respond (a : Half) (b : Byte) (s : State) : ∃ rc u, execTxbWr a b s = respond rc 0#16 u := by
  unfold execTxbWr
  split_ifs with hl ha
  · exact ⟨_, _, rfl⟩
  · exact ⟨_, _, rfl⟩
  · rw [memWrite_txbuf_of_lt _ _ _ (Nat.lt_of_not_le ha)]
    exact ⟨_, _, rfl⟩

/-- Settles O50: the two buffer reads check their address first, and the other reads answer a register. -/
theorem readsHaveNoSideEffect : Obligations.ReadsHaveNoSideEffect := by
  intro i s hi
  cases i with
  | txbRd a => exact execTxbRd_eq_respond a s
  | rxbRd a => exact execRxbRd_eq_respond a s
  | crcRead | txGetcmd | txGetseq | txGetlen | txStat | rxStat | rxGetcmd | rxGetseq | rxGetlen | rxGetcrc | rxGetcalc
  | xactStat => exact ⟨_, _, rfl⟩
  | nop | reset | crcInit | crcByte | txbWr | txSetcmd | txSetseq | txSetlen | txStart | rxFlush | xactStart | xactCancel
  | evRxByte | evTxTake | evWindowExpire => exact absurd hi nofun

/-! ## The events: their positions are within the frame -/

theorem rxHeader_isOk {s : State} (hp : s.rx_pos ≤ 4) (b : Byte) : ∃ t, rxHeader b s = .ok t := by
  unfold rxHeader
  interval_cases s.rx_pos
  all_goals exact ⟨_, rfl⟩

theorem rxPayload_isOk {s : State} (hp : s.rx_pos < Config.maxLen) (b : Byte) : ∃ t, rxPayload b s = .ok t := by
  rw [rxPayload, memWrite_rxbuf_of_lt _ _ _ hp]
  exact ⟨_, rfl⟩

theorem rxBody_isOk {s : State} (hl : s.rx_len.toNat ≤ Config.maxLen) (hp : s.rx_pos ≤ s.rx_len.toNat + 1) (b : Byte) :
    ∃ t, rxBody b s = .ok t := by
  unfold rxBody
  split_ifs with hpay hhi hlo
  · exact rxPayload_isOk (by omega) b
  · exact ⟨_, rfl⟩
  · exact ⟨_, rfl⟩
  · omega

theorem CodecInv.rxByte_isOk {s : State} (h : CodecInv s) (b : Byte) : ∃ t, Machine.rxByte b s = .ok t := by
  unfold Machine.rxByte
  split
  next => exact ⟨_, rfl⟩
  next hs => exact rxHeader_isOk (h.header_pos hs) b
  next hs =>
    obtain ⟨hl, hp⟩ := h.body_pos hs
    exact rxBody_isOk hl hp b
  all_goals exact ⟨_, rfl⟩

theorem CodecInv.execEvRxByte_isNext {s : State} (h : CodecInv s) (b : Byte) : ∃ t, execEvRxByte b s = .next t := by
  obtain ⟨t, ht⟩ := h.rxByte_isOk b
  rw [execEvRxByte, ht]
  exact ⟨_, rfl⟩

theorem CodecInv.execEvTxTake_isNext {s : State} (h : CodecInv s) : ∃ t, execEvTxTake s = .next t := by
  unfold execEvTxTake
  split_ifs with hb
  · obtain ⟨b, ho⟩ := frameByte_isOk h.tx_len_le (h.tx_pos_le hb)
    rw [ho]
    exact ⟨_, rfl⟩
  · exact ⟨_, rfl⟩

/-! ## Every instruction, every step -/

/-- An outcome chosen by a test is a next state if both choices are. -/
theorem isNext_ite {c : Prop} [Decidable c] {x y : Result} (hx : ∃ t, x = .next t) (hy : ∃ t, y = .next t) :
    ∃ t, (if c then x else y) = .next t := by
  split_ifs
  · exact hx
  · exact hy

theorem CodecInv.exec_isNext {s : State} (h : CodecInv s) (i : Instr) : ∃ t, exec i s = .next t := by
  cases i with
  | txbRd a => obtain ⟨_, _, he⟩ := execTxbRd_eq_respond a s; exact ⟨_, he⟩
  | rxbRd a => obtain ⟨_, _, he⟩ := execRxbRd_eq_respond a s; exact ⟨_, he⟩
  | txbWr a b => obtain ⟨_, _, he⟩ := execTxbWr_eq_respond a b s; exact ⟨_, he⟩
  | evRxByte b => exact h.execEvRxByte_isNext b
  | evTxTake => exact h.execEvTxTake_isNext
  | txSetcmd | txSetseq | txStart | rxFlush | xactStart | xactCancel => exact isNext_ite ⟨_, rfl⟩ ⟨_, rfl⟩
  | txSetlen => exact isNext_ite ⟨_, rfl⟩ (isNext_ite ⟨_, rfl⟩ ⟨_, rfl⟩)
  | evWindowExpire => exact isNext_ite (isNext_ite ⟨_, rfl⟩ ⟨_, rfl⟩) ⟨_, rfl⟩
  | nop | reset | crcInit | crcByte | crcRead | txGetcmd | txGetseq | txGetlen | txStat | rxStat | rxGetcmd | rxGetseq
  | rxGetlen | rxGetcrc | rxGetcalc | xactStat => exact ⟨_, rfl⟩

theorem step_of_decode_eq_none {s : State} {x : Input} {rest : List Input} (h : s.inputs = x :: rest)
    (hd : decode x.port x.word = none) : step s = undefinedWord x.port { s with inputs := rest } := by
  simp only [step, takeInput_of_inputs_cons h, hd]

theorem undefinedWord_isNext (p : Port) (s : State) : ∃ t, undefinedWord p s = .next t := by
  cases p
  · exact ⟨_, rfl⟩
  · exact ⟨_, rfl⟩

/-- Settles O56: no input answers; a defined word's instruction answers under the invariants, and an undefined word
always. -/
theorem invariantStatesNeverStop : Obligations.InvariantStatesNeverStop := by
  intro s h
  cases hs : s.inputs with
  | nil => exact ⟨_, step_of_inputs_nil hs⟩
  | cons x rest =>
    cases hd : decode x.port x.word with
    | some i =>
      rw [step_of_decode_eq_some hs hd]
      exact (codecInv_ignoresPorts s rest s.response s.emitted h).exec_isNext i
    | none =>
      rw [step_of_decode_eq_none hs hd]
      exact undefinedWord_isNext _ _

end Sys2Proof.Machine
end

section
/-! Words, instructions and rows of the opcode table (30_encoding.md R70-R78; O1, O2, O3, O4, O7). An instruction's word
decodes through its three fields, and a word decodes on a port exactly when a row of that port has its opcode. -/

namespace Sys2Proof

open Machine

/-! ## From an instruction to its word and back -/

theorem decodeHost_encode (i : Instr) : decodeHost (encode i) = decodeHostFields i.op i.a16 i.d8 := by
  simp [decodeHost, encode]

theorem decodeEvent_encode (i : Instr) : decodeEvent (encode i) = decodeEventFields i.op i.d8 := by
  simp [decodeEvent, encode]

theorem decodeHostFields_of_instr (i : Instr) :
    decodeHostFields i.op i.a16 i.d8 = if i.port = .host then some i else none := by
  cases i <;> rfl

theorem decodeEventFields_of_instr (i : Instr) :
    decodeEventFields i.op i.d8 = if i.port = .event then some i else none := by
  cases i <;> rfl

theorem decode_encode (p : Port) (i : Instr) : decode p (encode i) = if i.port = p then some i else none := by
  cases p
  · exact (decodeHost_encode i).trans (decodeHostFields_of_instr i)
  · exact (decodeEvent_encode i).trans (decodeEventFields_of_instr i)

@[simp] theorem decode_toInput (i : Instr) : decode i.toInput.port i.toInput.word = some i := by
  simp [Instr.toInput, decode_encode]

theorem decodeWord_encode (i : Instr) : decodeWord (encode i) = some i := by
  rw [decodeWord, decodeHost_encode, decodeEvent_encode, decodeHostFields_of_instr, decodeEventFields_of_instr]
  cases i.port <;> rfl

/-- Settles O1, by the two ports' decoders on the fields of the packed word. -/
theorem encodedInstructionsDecodeBack : Obligations.EncodedInstructionsDecodeBack := fun i =>
  ⟨by simp [decode_encode], decodeWord_encode i, fun p hp => by simp [decode_encode, hp.symm]⟩

/-! ## The match of a row is on the opcode alone -/

theorem OpRow.pattern_eq_packWord (r : OpRow) : r.pattern = packWord r.op 0#16 0#8 := by
  simp [OpRow.pattern, packWord]

theorem getLsbD_mask (i : Nat) (hi : i < 32) : (0xFF000000#32).getLsbD i = decide (24 ≤ i) := by
  revert i
  decide

theorem getLsbD_opcodeWord (op : Byte) (i : Nat) (hi : i < 32) :
    (packWord op 0#16 0#8).getLsbD i = (decide (24 ≤ i) && op.getLsbD (i - 24)) := by
  by_cases h : i < 24
  · simp [packWord, hi, h, Nat.not_le_of_lt h]
  · simp [packWord, hi, h, Nat.le_of_not_lt h]

theorem and_mask_eq_packWord (w : Word) : w &&& 0xFF000000#32 = packWord (opField w) 0#16 0#8 := by
  refine BitVec.eq_of_getLsbD_eq fun i hi => ?_
  rw [BitVec.getLsbD_and, getLsbD_mask i hi, getLsbD_opcodeWord _ i hi, Bool.and_comm]
  by_cases h : 24 ≤ i
  · have h8 : i - 24 < 8 := by omega
    rw [opField, BitVec.getLsbD_extractLsb', Nat.add_sub_cancel' h, decide_eq_true h8, Bool.true_and]
  · rw [decide_eq_false h, Bool.false_and, Bool.false_and]

/-- A word matches a row by mask and match value exactly when it has the row's opcode (R77). -/
theorem OpRow.matches_iff (r : OpRow) (w : Word) : w &&& 0xFF000000#32 = r.pattern ↔ r.op = opField w := by
  rw [and_mask_eq_packWord, r.pattern_eq_packWord]
  constructor
  · intro h
    simpa using (congrArg opField h).symm
  · intro h
    rw [h]

/-! ## The opcodes of the table, by port -/

/-- The opcodes defined on a port (30_encoding.md R74, R75). -/
def Port.opcodes : Port → List Byte
  | .host => Expect.hostOpcodes
  | .event => [0xF0#8, 0xF1#8, 0xF2#8]

theorem Port.opcodes_eq (p : Port) : p.opcodes = (opcodeTable.filter fun r => r.port == p).map OpRow.op := by
  cases p <;> decide

theorem opcodes_of_table : opcodeTable.map OpRow.op = Port.host.opcodes ++ Port.event.opcodes := by decide

theorem nodup_opcodes : (opcodeTable.map OpRow.op).Nodup := by decide

theorem decodeHostFields_isSome (op : Byte) (a : Half) (d : Byte) :
    (decodeHostFields op a d).isSome = true ↔ op ∈ Port.host.opcodes := by
  unfold decodeHostFields
  split
  case h_27 => simp_all [Port.opcodes, Expect.hostOpcodes]
  all_goals exact iff_of_true rfl (by decide)

theorem decodeEventFields_isSome (op d : Byte) : (decodeEventFields op d).isSome = true ↔ op ∈ Port.event.opcodes := by
  unfold decodeEventFields
  split
  case h_4 => simp_all [Port.opcodes]
  all_goals exact iff_of_true rfl (by decide)

theorem decode_isSome (p : Port) (w : Word) : (decode p w).isSome = true ↔ opField w ∈ p.opcodes := by
  cases p
  · exact decodeHostFields_isSome _ _ _
  · exact decodeEventFields_isSome _ _

theorem decode_eq_none {p : Port} {w : Word} (h : opField w ∉ p.opcodes) : decode p w = none :=
  Option.not_isSome_iff_eq_none.1 (mt (decode_isSome p w).1 h)

theorem decodeWord_isSome (w : Word) : (decodeWord w).isSome = true ↔ opField w ∈ opcodeTable.map OpRow.op := by
  rw [opcodes_of_table, List.mem_append, ← decode_isSome, ← decode_isSome, decodeWord, decode, decode]
  cases decodeHost w <;> simp

/-- A word that decodes on a port has its opcode in a row of that port. -/
theorem exists_row_of_decode {p : Port} {w : Word} {i : Instr} (h : decode p w = some i) :
    ∃ r ∈ opcodeTable, r.port = p ∧ r.op = opField w := by
  have hop : opField w ∈ p.opcodes := (decode_isSome p w).1 (by rw [h]; rfl)
  rw [p.opcodes_eq] at hop
  simpa [and_assoc] using hop

/-! ## What a row's format does not read does not matter -/

/-- Two words with a row's opcode that agree on the fields its format reads mean the same on its port: row by row, the
decoder's answer mentions no other field. -/
theorem decode_congr_of_row {r : OpRow} (hr : r ∈ opcodeTable) {w w' : Word} (hw : r.op = opField w)
    (hw' : r.op = opField w') (ha : r.format.readsA16 = true → a16Field w' = a16Field w)
    (hd : r.format.readsD8 = true → d8Field w' = d8Field w) : decode r.port w' = decode r.port w := by
  revert ha hd
  simp only [opcodeTable, opcodeTableControl, opcodeTableTx, opcodeTableRx, opcodeTableXactEvent, List.cons_append,
    List.nil_append] at hr
  fin_cases hr <;>
    simp +contextual [decode, decodeHost, decodeEvent, ← hw, ← hw', decodeHostFields, decodeEventFields,
      Format.readsA16, Format.readsD8]

/-- Settles O2: the row is the one with the word's opcode, and a row's word decodes by the fields its format reads. -/
theorem unreadFieldsAreIgnored : Obligations.UnreadFieldsAreIgnored := by
  refine ⟨fun p w i h => ?_, fun _ _ => rfl, by decide⟩
  obtain ⟨r, hr, rfl, hop⟩ := exists_row_of_decode h
  refine ⟨r, hr, rfl, (r.matches_iff w).2 hop, fun w' hw' ha hd => ?_⟩
  exact (decode_congr_of_row hr hop ((r.matches_iff w').1 hw') ha hd).trans h

/-! ## Every word matches as many rows as its opcode has in the table -/

theorem length_matching_rows (w : Word) :
    (opcodeTable.filter fun r => w &&& r.mask == r.pattern).length = (opcodeTable.map OpRow.op).count (opField w) := by
  rw [List.count_eq_countP, List.countP_map, List.countP_eq_length_filter]
  refine congrArg List.length (List.filter_congr fun r _ => ?_)
  exact decide_eq_decide.2 (r.matches_iff w)

/-- Settles O3: no opcode stands in two rows, and the decoder knows the opcodes of the table. -/
theorem opcodeRowsNeverOverlap : Obligations.OpcodeRowsNeverOverlap := by
  intro w
  rw [length_matching_rows, decodeWord_isSome]
  refine ⟨List.nodup_iff_count_le_one.1 nodup_opcodes _, List.count_eq_one_of_mem nodup_opcodes, fun h => ?_⟩
  exact List.count_pos_iff.1 (by omega)

/-- Settles O4: each of the ten words is closed, and the decoder computes. -/
theorem exampleWordsDecode : Obligations.ExampleWordsDecode := by
  unfold Obligations.ExampleWordsDecode
  decide

/-! ## Undefined words -/

/-- Settles O7: a word whose opcode is not its port's decodes to nothing, and the step answers an undefined word. -/
theorem undefinedWordsChangeNothing : Obligations.UndefinedWordsChangeNothing :=
  ⟨fun _ _ _ h hw => step_of_decode_eq_none h (decode_eq_none hw),
    fun _ _ _ h hw => step_of_decode_eq_none h (decode_eq_none hw)⟩

end Sys2Proof
end

section
/-! The assembler (30_encoding.md R91; O5): the value of a packed word, and the fields of a line whose operands fit. -/

namespace Sys2Proof

theorem toNat_packWord (op : Byte) (a : Half) (d : Byte) :
    (packWord op a d).toNat = op.toNat * 2 ^ 24 + a.toNat * 2 ^ 8 + d.toNat := by
  have hop := op.isLt
  have ha := a.isLt
  have hd := d.isLt
  have hlow : a.toNat * 2 ^ 8 ||| d.toNat = a.toNat * 2 ^ 8 + d.toNat := by
    rw [← Nat.shiftLeft_eq, Nat.shiftLeft_add_eq_or_of_lt hd]
  have hall : op.toNat * 2 ^ 24 ||| (a.toNat * 2 ^ 8 + d.toNat) = op.toNat * 2 ^ 24 + (a.toNat * 2 ^ 8 + d.toNat) := by
    rw [← Nat.shiftLeft_eq op.toNat, Nat.shiftLeft_add_eq_or_of_lt (by omega)]
  simp (disch := omega) only [packWord, BitVec.toNat_or, BitVec.toNat_shiftLeft, BitVec.toNat_setWidth, Nat.shiftLeft_eq,
    Nat.mod_eq_of_lt]
  rw [Nat.or_assoc, hlow, hall, Nat.add_assoc]

theorem assemble_of_not_wellFormed {l : AsmLine} (h : l.wellFormed = false) : assemble l = none := by
  unfold assemble
  cases rowOf l.mnemonic with
  | none => rfl
  | some r => simp [h]

theorem assemble_of_wellFormed {l : AsmLine} {r : OpRow} (hr : rowOf l.mnemonic = some r) (h : l.wellFormed = true) :
    assemble l = some ⟨r.port, packWord r.op (BitVec.ofNat 16 (AsmLine.fields r.format l.operands).1)
      (BitVec.ofNat 8 (AsmLine.fields r.format l.operands).2)⟩ := by
  simp [assemble, hr, h]

theorem AsmLine.row_and_fit_of_wellFormed {l : AsmLine} (h : l.wellFormed = true) :
    (∃ r, rowOf l.mnemonic = some r) ∧ l.operandsFit = true := by
  simp only [wellFormed, knownMnemonic, Bool.and_eq_true, Option.isSome_iff_exists] at h
  obtain ⟨⟨⟨hrow, _⟩, _⟩, hfit⟩ := h
  exact ⟨hrow, hfit⟩

/-- Operands that pass the range check fill no more than their fields. -/
theorem AsmLine.fields_fit {l : AsmLine} {r : OpRow} (hr : rowOf l.mnemonic = some r) (h : l.operandsFit = true) :
    (fields r.format l.operands).1 < 2 ^ 16 ∧ (fields r.format l.operands).2 < 2 ^ 8 := by
  unfold operandsFit at h
  rw [hr] at h
  unfold fields
  split
  case h_5 => decide
  all_goals simp_all [Nat.lt_succ_iff]

/-- Settles O5: a line that passes the four checks has a row, and its operands fit their fields. -/
theorem assemblerPacksTheFields : Obligations.AssemblerPacksTheFields := by
  refine fun l => ⟨assemble_of_not_wellFormed, fun h => ?_⟩
  obtain ⟨⟨r, hr⟩, hfit⟩ := AsmLine.row_and_fit_of_wellFormed h
  obtain ⟨ha, hd⟩ := AsmLine.fields_fit hr hfit
  refine ⟨r, _, hr, assemble_of_wellFormed hr h, ?_⟩
  rw [toNat_packWord, BitVec.toNat_ofNat, BitVec.toNat_ofNat, Nat.mod_eq_of_lt ha, Nat.mod_eq_of_lt hd]

end Sys2Proof
end

section
/-! The frame on the wire, index by index (30_encoding.md R80; O26). -/

namespace Sys2Proof.Machine

theorem hiByte_ofNat (n : Nat) : hiByte (BitVec.ofNat 16 n) = BitVec.ofNat 8 (n / 256) := by
  apply BitVec.eq_of_toNat_eq
  simp only [hiByte, BitVec.extractLsb'_toNat, BitVec.toNat_ofNat, Nat.shiftRight_eq_div_pow]
  omega

theorem loByte_ofNat (n : Nat) : loByte (BitVec.ofNat 16 n) = BitVec.ofNat 8 (n % 256) := by
  apply BitVec.eq_of_toNat_eq
  simp only [loByte, BitVec.extractLsb'_toNat, BitVec.toNat_ofNat, Nat.shiftRight_zero]
  omega

@[simp] theorem length_frameCovered (cmd : Byte) (seq : Half) (payload : List Byte) :
    (frameCovered cmd seq payload).length = 5 + payload.length := by
  simp [frameCovered, frameHeader]
  omega

@[simp] theorem length_frame (cmd : Byte) (seq : Half) (payload : List Byte) :
    (frame cmd seq payload).length = 8 + payload.length := by
  simp [frame, bigEndian]
  omega

/-- After SOF, a frame is what its CRC covers and the two bytes of the CRC. -/
theorem frame_eq (cmd : Byte) (seq : Half) (payload : List Byte) :
    frame cmd seq payload = sof :: (frameCovered cmd seq payload ++
      [hiByte (crc16 (frameCovered cmd seq payload)), loByte (crc16 (frameCovered cmd seq payload))]) := rfl

/-- The payload starts at index 6. -/
theorem getElem?_frame_payload (cmd : Byte) (seq : Half) (payload : List Byte) {i : Nat} (hi : i < payload.length) :
    (frame cmd seq payload)[6 + i]? = payload[i]? := by
  have hskip : 6 + i = i + 5 + 1 := by omega
  rw [frame_eq, hskip, List.getElem?_cons_succ, List.getElem?_append_left (by simp; omega)]
  exact List.getElem?_append_right (l₁ := frameHeader cmd seq _) (by simp [frameHeader])

/-- The CRC covers `F[1..5+N]`. -/
theorem frame_covered (cmd : Byte) (seq : Half) (payload : List Byte) :
    ((frame cmd seq payload).drop 1).take (5 + payload.length) = frameCovered cmd seq payload :=
  List.take_left' (length_frameCovered cmd seq payload)

/-- The two bytes after what the CRC covers. -/
theorem getElem?_frame_crc (cmd : Byte) (seq : Half) (payload : List Byte) (k : Nat) :
    (frame cmd seq payload)[6 + payload.length + k]? = (bigEndian (crc16 (frameCovered cmd seq payload)))[k]? := by
  have hskip : 6 + payload.length + k = (frameCovered cmd seq payload).length + k + 1 := by simp; omega
  rw [frame, hskip, List.getElem?_cons_succ, List.getElem?_append_right (Nat.le_add_right _ _), Nat.add_sub_cancel_left]

/-- Settles O26: the header is read off, and the payload and the CRC stand where the bytes before them end. -/
theorem frameLayout : Obligations.FrameLayout := by
  intro cmd seq payload _
  refine ⟨length_frame cmd seq payload, rfl, rfl, rfl, rfl, congrArg some (hiByte_ofNat _), congrArg some (loByte_ofNat _),
    fun i hi => getElem?_frame_payload cmd seq payload hi, _, rfl, ?_, ?_⟩
  · rw [frame_covered]
    exact getElem?_frame_crc cmd seq payload 0
  · rw [frame_covered, show 7 + payload.length = 6 + payload.length + 1 by omega]
    exact getElem?_frame_crc cmd seq payload 1

end Sys2Proof.Machine
end

section
/-! What a step gives out: a host command a response, an event at most a byte (30_encoding.md R70, R73; O51). -/

namespace Sys2Proof.Machine

/-- The outcome completes a host command. -/
def Responds (x : Result) : Prop := ∃ rc v u, x = respond rc v u

theorem Responds.ite {c : Prop} [Decidable c] {x y : Result} (hx : Responds x) (hy : Responds y) :
    Responds (if c then x else y) := by
  split_ifs
  · exact hx
  · exact hy

/-- Every host command completes, in every state. -/
theorem exec_responds {i : Instr} (hi : i.port = .host) (s : State) : Responds (exec i s) := by
  cases i with
  | txbWr a b => obtain ⟨rc, u, he⟩ := execTxbWr_eq_respond a b s; exact ⟨rc, _, u, he⟩
  | txbRd a => obtain ⟨rc, v, he⟩ := execTxbRd_eq_respond a s; exact ⟨rc, v, s, he⟩
  | rxbRd a => obtain ⟨rc, v, he⟩ := execRxbRd_eq_respond a s; exact ⟨rc, v, s, he⟩
  | txSetcmd | txSetseq | txStart | rxFlush | xactStart | xactCancel => exact .ite ⟨_, _, _, rfl⟩ ⟨_, _, _, rfl⟩
  | txSetlen => exact .ite ⟨_, _, _, rfl⟩ (.ite ⟨_, _, _, rfl⟩ ⟨_, _, _, rfl⟩)
  | nop | reset | crcInit | crcByte | crcRead | txGetcmd | txGetseq | txGetlen | txStat | rxStat | rxGetcmd | rxGetseq
  | rxGetlen | rxGetcrc | rxGetcalc | xactStat => exact ⟨_, _, _, rfl⟩
  | evRxByte | evTxTake | evWindowExpire => exact absurd hi nofun

/-- An event gives out nothing, or it is a take while busy and gives out the byte offered. -/
theorem exec_event_outputs {i : Instr} {s t : State} (h : exec i s = .next t) (hi : i.port = .event) :
    (∃ u, t = quiet u) ∨ (i = .evTxTake ∧ s.tx_busy = true ∧ ∃ b u, frameByte s.tx_pos s = .ok b ∧ t = emit b u) := by
  cases i with
  | evRxByte b =>
    obtain ⟨u, _, rfl⟩ := execEvRxByte_cases h
    exact .inl ⟨_, rfl⟩
  | evTxTake =>
    rcases execEvTxTake_cases h with ⟨_, rfl⟩ | ⟨hb, b, ho, rfl⟩
    · exact .inl ⟨_, rfl⟩
    · exact .inr ⟨rfl, hb, b, _, ho, rfl⟩
  | evWindowExpire => rcases execEvWindowExpire_cases h with ⟨_, rfl⟩ | ⟨_, _, rfl⟩ | ⟨_, _, rfl⟩ <;> exact .inl ⟨_, rfl⟩
  | _ => exact absurd hi nofun

/-- Settles O51: a host command ends in `respond`, an event in `quiet` or, for a take while busy, in `emit`. -/
theorem outputsFollowThePorts : Obligations.OutputsFollowThePorts := by
  intro i s t h
  constructor
  · intro hi
    obtain ⟨rc, v, u, he⟩ := exec_responds hi s
    cases h.symm.trans he
    exact ⟨⟨_, rfl⟩, rfl⟩
  · intro hi
    rcases exec_event_outputs h hi with ⟨u, rfl⟩ | ⟨ht, hb, b, u, ho, rfl⟩
    · exact ⟨rfl, nofun⟩
    · refine ⟨rfl, fun b' he => ⟨ht, hb, ?_⟩⟩
      cases he
      exact ho

end Sys2Proof.Machine
end

section
/-! A whole frame received byte by byte from `HUNT`, whatever the controller does (42_rx_decoder.md R154-R160), and the NAK
that is dropped (43_transaction.md R193; O47). -/

namespace Sys2Proof.Machine

/-! ## The decoder inside a frame -/

/-- What the decoder holds of the frame it is receiving. -/
structure Reception where
  st : RxState
  pos : Nat
  cmd : Byte
  seq : Half
  len : Half
  /-- The CRC the frame carries, as far as it has arrived. -/
  rcv : Half
  /-- The running CRC. -/
  crc : Half
  buf : Memory

/-- The state `s` with the decoder inside a frame, `ins` still to come, and nothing given out. -/
def inFrame (s : State) (r : Reception) (ins : List Input) : State :=
  { s with
    rx_state := r.st
    rx_pos := r.pos
    rx_cmd := r.cmd
    rx_seq := r.seq
    rx_len := r.len
    rx_crc_rcv := r.rcv
    rx_crc_calc := r.crc
    rxbuf := r.buf
    inputs := ins
    response := none
    emitted := none }

/-- After SOF (R155). -/
def Reception.start (buf : Memory) : Reception := ⟨.header, 0, 0#8, 0#16, 0#16, 0#16, crcInitial, buf⟩

/-- In `BODY`, with the header and the payload bytes `got` received (R157). -/
def Reception.body (cmd : Byte) (seq len : Half) (got : List Byte) (buf : Memory) : Reception :=
  ⟨.body, got.length, cmd, seq, len, 0#16, crc16 (frameHeader cmd seq len ++ got), buf⟩

/-- At the end of a frame that carries the CRC bytes `hi` and `lo` (R160). -/
def Reception.ended (cmd : Byte) (seq : Half) (payload : List Byte) (hi lo : Byte) (buf : Memory) : Reception :=
  ⟨if hi ++ lo = crc16 (frameCovered cmd seq payload) then .valid else .crcErr, 0, cmd, seq,
    BitVec.ofNat 16 payload.length, hi ++ lo, crc16 (frameCovered cmd seq payload), buf⟩

/-- The byte `b` takes the decoder from one point of a frame to the next, and changes nothing else. -/
def Receives (s : State) (r : Reception) (b : Byte) (r' : Reception) : Prop :=
  ∀ ins, exec (.evRxByte b) (inFrame s r ins) = .next (inFrame s r' ins)

/-- The same over several bytes, one per step. -/
def ReceivesAll (s : State) (r : Reception) (bytes : List Byte) (r' : Reception) : Prop :=
  ∀ rest, runSteps bytes.length (inFrame s r (rxInputs bytes ++ rest)) = .next (inFrame s r' rest)

/-! ## Runs over received bytes -/

@[simp] theorem rxInputs_append (xs ys : List Byte) : rxInputs (xs ++ ys) = rxInputs xs ++ rxInputs ys :=
  List.map_append

theorem step_rxInputs {s : State} {b : Byte} {bytes : List Byte} {rest : List Input}
    (h : s.inputs = rxInputs (b :: bytes) ++ rest) :
    step s = exec (.evRxByte b) { s with inputs := rxInputs bytes ++ rest } :=
  step_of_decode_eq_some h (decode_toInput _)

theorem Receives.step {s : State} {r r' : Reception} {b : Byte} (h : Receives s r b r') (bytes : List Byte)
    (rest : List Input) :
    step (inFrame s r (rxInputs (b :: bytes) ++ rest)) = .next (inFrame s r' (rxInputs bytes ++ rest)) :=
  (step_rxInputs rfl).trans (h _)

theorem ReceivesAll.nil (s : State) (r : Reception) : ReceivesAll s r [] r := fun _ => rfl

theorem ReceivesAll.cons {s : State} {r r' r'' : Reception} {b : Byte} {bytes : List Byte} (h : Receives s r b r')
    (hs : ReceivesAll s r' bytes r'') : ReceivesAll s r (b :: bytes) r'' :=
  fun rest => (runSteps_of_step _ (h.step bytes rest)).trans (hs rest)

theorem ReceivesAll.append {s : State} {r r' r'' : Reception} {xs ys : List Byte} (hx : ReceivesAll s r xs r')
    (hy : ReceivesAll s r' ys r'') : ReceivesAll s r (xs ++ ys) r'' := by
  intro rest
  rw [rxInputs_append, List.append_assoc, List.length_append, runSteps_add _ (hx _)]
  exact hy rest

/-! ## SOF and the header -/

theorem exec_sof {s : State} (h : s.rx_state = .hunt) (ins : List Input) :
    exec (.evRxByte sof) { s with inputs := ins } = .next (inFrame s (.start s.rxbuf) ins) := by
  simp only [exec, execEvRxByte, rxByte, h]
  rfl

theorem receives_cmd (s : State) {r : Reception} (hs : r.st = .header) (hp : r.pos = 0) (b : Byte) :
    Receives s r b { r with crc := crcStep r.crc b, cmd := b, pos := 1 } := by
  cases r; cases hs; cases hp
  exact fun _ => rfl

theorem receives_seq_hi (s : State) {r : Reception} (hs : r.st = .header) (hp : r.pos = 1) (b : Byte) :
    Receives s r b { r with crc := crcStep r.crc b, seq := setHi r.seq b, pos := 2 } := by
  cases r; cases hs; cases hp
  exact fun _ => rfl

theorem receives_seq_lo (s : State) {r : Reception} (hs : r.st = .header) (hp : r.pos = 2) (b : Byte) :
    Receives s r b { r with crc := crcStep r.crc b, seq := setLo r.seq b, pos := 3 } := by
  cases r; cases hs; cases hp
  exact fun _ => rfl

theorem receives_len_hi (s : State) {r : Reception} (hs : r.st = .header) (hp : r.pos = 3) (b : Byte) :
    Receives s r b { r with crc := crcStep r.crc b, len := setHi r.len b, pos := 4 } := by
  cases r; cases hs; cases hp
  exact fun _ => rfl

/-- The fifth header byte, when the length fits (R158). -/
theorem receives_len_lo (s : State) {r : Reception} (hs : r.st = .header) (hp : r.pos = 4) {b : Byte}
    (hl : (setLo r.len b).toNat ≤ Config.maxLen) :
    Receives s r b { r with crc := crcStep r.crc b, len := setLo r.len b, st := .body, pos := 0 } := by
  cases r; cases hs; cases hp
  intro ins
  simp [exec, execEvRxByte, rxByte, inFrame, rxHeader, rxCheckLen, Nat.not_lt_of_le hl, controllerHook, quiet]

theorem setLo_setHi_bytes (v w : Half) : setLo (setHi v (hiByte w)) (loByte w) = w := by
  rw [setLo_setHi, append_hiByte_loByte]

/-- The five header bytes lead to `BODY` (R156, R158). -/
theorem receivesAll_header (s : State) (cmd : Byte) (seq : Half) {len : Half} (buf : Memory)
    (hl : len.toNat ≤ Config.maxLen) :
    ReceivesAll s (.start buf) (frameHeader cmd seq len) (.body cmd seq len [] buf) := by
  have hlen : (setLo (setHi 0#16 (hiByte len)) (loByte len)).toNat ≤ Config.maxLen := by
    rwa [setLo_setHi_bytes]
  have h := ReceivesAll.cons (receives_cmd s (r := .start buf) rfl rfl cmd) <|
    .cons (receives_seq_hi s rfl rfl (hiByte seq)) <| .cons (receives_seq_lo s rfl rfl (loByte seq)) <|
    .cons (receives_len_hi s rfl rfl (hiByte len)) <| .cons (receives_len_lo s rfl rfl hlen) <| .nil s _
  simpa only [Reception.start, Reception.body, setLo_setHi_bytes, List.append_nil, List.length_nil, crc16, crcFrom,
    frameHeader, List.foldl_cons, List.foldl_nil] using h

/-! ## The payload -/

theorem receives_payload (s : State) {cmd : Byte} {seq len : Half} {got : List Byte} (b : Byte) (buf : Memory)
    (hl : len.toNat ≤ Config.maxLen) (hgot : got.length < len.toNat) :
    Receives s (.body cmd seq len got buf) b
      (.body cmd seq len (got ++ [b]) (Memory.write .rxbuf buf got.length b)) := by
  intro ins
  have hlt : got.length < Config.maxLen := Nat.lt_of_lt_of_le hgot hl
  simp [exec, execEvRxByte, rxByte, inFrame, Reception.body, rxBody, hgot, rxPayload, memWrite_rxbuf_of_lt _ _ _ hlt,
    controllerHook, quiet, ← List.append_assoc, crc16_append_singleton]

/-- The payload's bytes end in `RXBUF` behind those already there (R157). -/
theorem receivesAll_payload (s : State) (cmd : Byte) (seq : Half) {len : Half} (hl : len.toNat ≤ Config.maxLen)
    (payload : List Byte) {got : List Byte} {buf : Memory} (hfit : got.length + payload.length ≤ len.toNat)
    (hbuf : bufPrefix .rxbuf buf got.length = got) :
    ∃ buf', bufPrefix .rxbuf buf' (got ++ payload).length = got ++ payload ∧
      ReceivesAll s (.body cmd seq len got buf) payload (.body cmd seq len (got ++ payload) buf') := by
  induction payload generalizing got buf with
  | nil =>
    rw [List.append_nil]
    exact ⟨buf, hbuf, .nil s _⟩
  | cons b payload ih =>
    rw [List.length_cons] at hfit
    have hbuf' : bufPrefix .rxbuf (Memory.write .rxbuf buf got.length b) (got ++ [b]).length = got ++ [b] := by
      rw [List.length_append, List.length_singleton, bufPrefix_write_succ, hbuf]
    have hfit' : (got ++ [b]).length + payload.length ≤ len.toNat := by
      rw [List.length_append, List.length_singleton]
      omega
    obtain ⟨buf', hread, hrun⟩ := ih hfit' hbuf'
    rw [List.append_assoc, List.singleton_append] at hread hrun
    exact ⟨buf', hread, .cons (receives_payload s b buf hl (by omega)) hrun⟩

/-! ## The CRC and the end of the frame -/

theorem receives_crc_hi (s : State) {r : Reception} (hs : r.st = .body) (hp : r.pos = r.len.toNat) (b : Byte) :
    Receives s r b { r with rcv := setHi r.rcv b, pos := r.len.toNat + 1 } := by
  intro ins
  simp [exec, execEvRxByte, rxByte, inFrame, hs, hp, rxBody, rxCrcHi, controllerHook, quiet]

/-- The low CRC byte completes the frame, and the controller's hook sees it (R160, R161). -/
theorem step_crc_lo (s : State) {r : Reception} (hs : r.st = .body) (hp : r.pos = r.len.toNat + 1) (b : Byte)
    (rest : List Input) :
    step (inFrame s r (rxInputs [b] ++ rest)) = .next (quiet (controllerHook .body (inFrame s
      { r with rcv := setLo r.rcv b, pos := 0, st := if setLo r.rcv b = r.crc then .valid else .crcErr } rest))) := by
  rw [step_rxInputs rfl]
  simp [exec, execEvRxByte, rxByte, inFrame, hs, hp, rxBody, rxCrcLo, rxInputs]

theorem toNat_ofNat_length {payload : List Byte} (hl : payload.length ≤ Config.maxLen) :
    (BitVec.ofNat 16 payload.length).toNat = payload.length :=
  Nat.mod_eq_of_lt (Nat.lt_of_le_of_lt (hl.trans Config.maxLen_le) (by decide))

/-- A whole frame from `HUNT`, with any CRC bytes: its payload is in `RXBUF`, its fields are in the registers, and the
controller's hook sees the frame (R154-R161). -/
theorem runSteps_frame {s : State} {cmd : Byte} {seq : Half} {payload : List Byte} {hi lo : Byte} {rest : List Input}
    (hs : s.rx_state = .hunt) (hl : payload.length ≤ Config.maxLen)
    (hin : s.inputs = rxInputs (sof :: (frameCovered cmd seq payload ++ [hi, lo])) ++ rest) :
    ∃ buf, bufPrefix .rxbuf buf payload.length = payload ∧
      runSteps (8 + payload.length) s =
        .next (quiet (controllerHook .body (inFrame s (.ended cmd seq payload hi lo buf) rest))) := by
  have hlen := toNat_ofNat_length hl
  have hfit : (BitVec.ofNat 16 payload.length).toNat ≤ Config.maxLen := hlen.symm ▸ hl
  obtain ⟨buf, hbuf, hpayload⟩ := receivesAll_payload s cmd seq hfit payload (got := []) (buf := s.rxbuf)
    (by rw [hlen, List.length_nil, Nat.zero_add]) rfl
  have hcovered : ReceivesAll s (.start s.rxbuf) (frameCovered cmd seq payload) _ :=
    (receivesAll_header s cmd seq s.rxbuf hfit).append hpayload
  have hcrc := hcovered.append (.cons (receives_crc_hi s rfl hlen.symm hi) (.nil s _))
  have hsof : step s = .next (inFrame s (.start s.rxbuf)
      (rxInputs (frameCovered cmd seq payload ++ [hi]) ++ (rxInputs [lo] ++ rest))) := by
    rw [step_rxInputs hin, exec_sof hs, ← List.append_assoc, ← rxInputs_append, List.append_assoc _ [hi] [lo]]
    rfl
  have hcount : 8 + payload.length = (frameCovered cmd seq payload ++ [hi]).length + 1 + 1 := by
    simp only [List.length_append, length_frameCovered, List.length_singleton]
    omega
  refine ⟨buf, hbuf, ?_⟩
  rw [hcount, runSteps_of_step _ hsof, runSteps_add 1 (hcrc _), runSteps_of_step 0 (step_crc_lo s rfl rfl lo rest),
    runSteps_zero]
  simp only [Reception.body, Reception.ended, setLo_setHi, List.nil_append]
  rfl

/-! ## A frame with its own CRC -/

theorem Reception.ended_valid (cmd : Byte) (seq : Half) (payload : List Byte) (buf : Memory) :
    (Reception.ended cmd seq payload (hiByte (crc16 (frameCovered cmd seq payload)))
      (loByte (crc16 (frameCovered cmd seq payload))) buf).st = .valid := by
  rw [Reception.ended, append_hiByte_loByte, if_pos rfl]

theorem read_of_bufPrefix {n : BufName} {m : Memory} {bytes : List Byte} (h : bufPrefix n m bytes.length = bytes) {i : Nat}
    (hi : i < bytes.length) : some (Memory.read n m i) = bytes[i]? := by
  rw [← h]
  simp [bufPrefix, hi]

/-- A good frame from `HUNT` is valid, and the controller's hook sees it. -/
theorem runSteps_good_frame {s : State} {cmd : Byte} {seq : Half} {payload : List Byte} {rest : List Input}
    (hs : s.rx_state = .hunt) (hl : payload.length ≤ Config.maxLen)
    (hin : s.inputs = rxInputs (frame cmd seq payload) ++ rest) :
    ∃ r : Reception, r.st = .valid ∧ r.cmd = cmd ∧ r.seq = seq ∧ r.len.toNat = payload.length ∧
      bufPrefix .rxbuf r.buf payload.length = payload ∧
      runSteps (8 + payload.length) s = .next (quiet (controllerHook .body (inFrame s r rest))) := by
  obtain ⟨buf, hbuf, hrun⟩ := runSteps_frame hs hl hin
  exact ⟨_, Reception.ended_valid cmd seq payload buf, rfl, rfl, toNat_ofNat_length hl, hbuf, hrun⟩

theorem controllerHook_of_valid {before : RxState} {s : State} (hb : before.terminal = false) (hs : s.rx_state = .valid)
    (ha : s.xact_state.active = true) :
    controllerHook before s = if s.rx_cmd = nakCmd then huntDecoder s else { s with xact_state := .ok } := by
  have ht : s.rx_state.terminal = true := by rw [hs]; rfl
  rw [controllerHook, if_pos ⟨hb, ht, ha⟩]
  simp only [frameCompleted, hs]

/-- In an active transaction a NAK is dropped (43_transaction.md R193). -/
theorem controllerHook_of_nak {before : RxState} {s : State} (hb : before.terminal = false) (hs : s.rx_state = .valid)
    (ha : s.xact_state.active = true) (hc : s.rx_cmd = nakCmd) : controllerHook before s = huntDecoder s := by
  rw [controllerHook_of_valid hb hs ha, if_pos hc]

/-- In an active transaction a good frame that is no NAK ends it (43_transaction.md R192). -/
theorem controllerHook_of_response {before : RxState} {s : State} (hb : before.terminal = false)
    (hs : s.rx_state = .valid) (ha : s.xact_state.active = true) (hc : s.rx_cmd ≠ nakCmd) :
    controllerHook before s = { s with xact_state := .ok } := by
  rw [controllerHook_of_valid hb hs ha, if_neg hc]

/-- Settles O47: the NAK leaves the decoder in `HUNT` and the window open, so the next frame is received as the first was,
and ends the transaction. -/
theorem nakIsDroppedThenTheResponseCompletes : Obligations.NakIsDroppedThenTheResponseCompletes := by
  intro s seq payload cmd' seq' payload' rest hw hs hl hl' hcmd hin
  have ha : s.xact_state.active = true := by rw [hw]; rfl
  obtain ⟨r, hv, hnak, -, -, -, hrun⟩ := runSteps_good_frame hs hl hin
  rw [controllerHook_of_nak (s := inFrame s r _) rfl hv ha hnak] at hrun
  obtain ⟨r', hv', rfl, hseq, hlen, hbuf, hrun'⟩ := runSteps_good_frame (cmd := cmd') (seq := seq') (rest := rest)
    (s := quiet (huntDecoder (inFrame s r _))) rfl hl' rfl
  rw [controllerHook_of_response (s := inFrame (quiet (huntDecoder (inFrame s r _))) r' rest) rfl hv' ha hcmd] at hrun'
  exact ⟨⟨_, hrun, hw, rfl, rfl, rfl, hnak, rfl⟩, _, (runSteps_add _ hrun).trans hrun', rfl, rfl, hv', rfl, hseq, hlen,
    fun i hi => read_of_bufPrefix hbuf hi, rfl⟩

end Sys2Proof.Machine
end

section
/-! The CRC function (40_crc.md R100, R101, R106, R107; O11, O12, O13, O14): the loop of a step as a fold, its linearity
over GF(2), and the CRC of bytes that end with their own CRC. -/

namespace Sys2Proof.Machine

/-! ## The folds -/

/-- The passes counted off along any list, whose entries do not matter. -/
theorem foldl_crcShift {α : Type} (xs : List α) (c : Half) :
    xs.foldl (fun c _ => crcShift c) c = crcShifts xs.length c := by
  induction xs generalizing c with
  | nil => rfl
  | cons x xs ih => exact ih (crcShift c)

theorem crcFrom_append (c : Half) (xs ys : List Byte) : crcFrom c (xs ++ ys) = crcFrom (crcFrom c xs) ys :=
  List.foldl_append

theorem crc16_append (xs ys : List Byte) : crc16 (xs ++ ys) = crcFrom (crc16 xs) ys :=
  crcFrom_append crcInitial xs ys

/-- Settles O11: the eight passes are the fold over eight indices. -/
theorem crcIsTheByteLoop : Obligations.CrcIsTheByteLoop :=
  ⟨fun c b => (foldl_crcShift (List.range 8) (c ^^^ zext16 b <<< 8)).symm, rfl, crc16_append_singleton⟩

/-- Settles O12: the vectors are closed terms, which the kernel evaluates. -/
theorem crcCheckValues : Obligations.CrcCheckValues := by
  unfold Obligations.CrcCheckValues
  decide +kernel

/-! ## Linearity -/

/-- Bit 15 of the sum is set when it is set in exactly one of the two; when in both, the two feedbacks cancel. -/
theorem crcShift_xor (c1 c2 : Half) : crcShift (c1 ^^^ c2) = crcShift c1 ^^^ crcShift c2 := by
  unfold crcShift
  rw [BitVec.getLsbD_xor, BitVec.shiftLeft_xor_distrib]
  cases c1.getLsbD 15 <;> cases c2.getLsbD 15
  · rfl
  · show (c1 <<< 1 ^^^ c2 <<< 1) ^^^ crcPoly = c1 <<< 1 ^^^ (c2 <<< 1 ^^^ crcPoly)
    ac_rfl
  · show (c1 <<< 1 ^^^ c2 <<< 1) ^^^ crcPoly = (c1 <<< 1 ^^^ crcPoly) ^^^ c2 <<< 1
    ac_rfl
  · show c1 <<< 1 ^^^ c2 <<< 1 = (c1 <<< 1 ^^^ crcPoly) ^^^ (c2 <<< 1 ^^^ crcPoly)
    calc c1 <<< 1 ^^^ c2 <<< 1 = (c1 <<< 1 ^^^ c2 <<< 1) ^^^ (crcPoly ^^^ crcPoly) := by
          rw [BitVec.xor_self, BitVec.xor_zero]
      _ = (c1 <<< 1 ^^^ crcPoly) ^^^ (c2 <<< 1 ^^^ crcPoly) := by ac_rfl

theorem crcShifts_xor (n : Nat) (c1 c2 : Half) : crcShifts n (c1 ^^^ c2) = crcShifts n c1 ^^^ crcShifts n c2 := by
  induction n generalizing c1 c2 with
  | zero => rfl
  | succ n ih => simp only [crcShifts, crcShift_xor, ih]

theorem zext16_xor (b1 b2 : Byte) : zext16 (b1 ^^^ b2) = zext16 b1 ^^^ zext16 b2 := BitVec.setWidth_xor

theorem crcStep_xor (c1 c2 : Half) (b1 b2 : Byte) :
    crcStep (c1 ^^^ c2) (b1 ^^^ b2) = crcStep c1 b1 ^^^ crcStep c2 b2 := by
  have hentry : (c1 ^^^ c2) ^^^ zext16 (b1 ^^^ b2) <<< 8 = (c1 ^^^ zext16 b1 <<< 8) ^^^ (c2 ^^^ zext16 b2 <<< 8) := by
    rw [zext16_xor, BitVec.shiftLeft_xor_distrib]
    ac_rfl
  rw [crcStep, hentry, crcShifts_xor]
  rfl

theorem crcStep_zero : crcStep 0#16 0#8 = 0#16 := by decide

theorem crc16_replicate_zero (k : Nat) : crc16 (List.replicate k 0#8) = 0#16 := by
  induction k with
  | zero => rfl
  | succ k ih => rw [List.replicate_succ', crc16_append_singleton, ih, crcStep_zero]

/-- Settles O13: each pass is linear, so the step is, and zero bytes leave the initial value as it is. -/
theorem crcStepIsLinear : Obligations.CrcStepIsLinear := by
  refine ⟨crcStep_xor, fun k bytes => ?_⟩
  rw [crc16_append, crc16_replicate_zero]
  rfl

/-! ## The residue -/

/-- While only bits that do not reach bit 15 are set, nothing is fed back. -/
theorem crcShifts_of_high_bits_clear (n : Nat) {c : Half} (h : ∀ i, 16 ≤ i + n → c.getLsbD i = false) :
    crcShifts n c = c <<< n := by
  induction n generalizing c with
  | zero => exact (BitVec.shiftLeft_zero c).symm
  | succ n ih =>
    have hpass : crcShift c = c <<< 1 := by rw [crcShift, h 15 (by omega)]; rfl
    have hclear : ∀ i, 16 ≤ i + n → (c <<< 1).getLsbD i = false := by
      intro i hi
      simp [h (i - 1) (by omega)]
    rw [crcShifts, hpass, ih hclear, ← BitVec.shiftLeft_add, Nat.add_comm]

theorem xor_hiByte (c : Half) : c ^^^ zext16 (hiByte c) <<< 8 = zext16 (loByte c) := by
  ext i hi
  by_cases h : i < 8
  · simp [zext16, loByte, h, BitVec.getLsbD_eq_getElem hi]
  · have hup : 8 + (i - 8) = i := by omega
    have hlt : i - 8 < 8 := by omega
    simp [zext16, hiByte, loByte, h, hup, hlt, BitVec.getLsbD_eq_getElem hi]

/-- A value's own high byte cancels its high half, and its low byte moves up without feedback. -/
theorem crcStep_hiByte (c : Half) : crcStep c (hiByte c) = zext16 (loByte c) <<< 8 := by
  rw [crcStep, xor_hiByte]
  exact crcShifts_of_high_bits_clear 8 fun i hi => by simp [zext16, BitVec.getLsbD_of_ge _ i (show 8 ≤ i by omega)]

theorem crcStep_shifted (b : Byte) : crcStep (zext16 b <<< 8) b = 0#16 := by
  rw [crcStep, BitVec.xor_self]
  rfl

theorem crcFrom_bigEndian (c : Half) : crcFrom c (bigEndian c) = 0#16 := by
  show crcStep (crcStep c (hiByte c)) (loByte c) = 0#16
  rw [crcStep_hiByte, crcStep_shifted]

theorem crc16_append_bigEndian (bytes : List Byte) : crc16 (bytes ++ bigEndian (crc16 bytes)) = 0#16 := by
  rw [crc16_append, crcFrom_bigEndian]

/-- Settles O14: a frame after SOF is what its CRC covers and that CRC, so both clauses are one fact. -/
theorem crcResidueIsZero : Obligations.CrcResidueIsZero :=
  ⟨crc16_append_bigEndian, fun cmd seq payload => crc16_append_bigEndian (frameCovered cmd seq payload)⟩

end Sys2Proof.Machine
end

section
/-! The stand-alone CRC unit (40_crc.md R103-R105, R108; O15, O16): its commands, and the accumulator over a run that
other agents' inputs are interleaved with. -/

namespace Sys2Proof.Machine

/-- Settles O15: the three commands are accepted without a test, and each opcode is its row of the decoder. -/
theorem crcUnitCommands : Obligations.CrcUnitCommands :=
  ⟨fun _ => ⟨rfl, fun _ => rfl, rfl⟩, hostWord_of_decodeHostFields fun _ _ => rfl,
    hostWord_of_decodeHostFields fun _ _ => rfl, hostWord_of_decodeHostFields fun _ _ => rfl⟩

/-! ## The bytes that some inputs carry -/

theorem crcBytesIn_cons (x : Input) (xs : List Input) : crcBytesIn (x :: xs) = crcBytesIn [x] ++ crcBytesIn xs :=
  List.filterMap_append (l := [x])

theorem crcBytesIn_of_crcByte {x : Input} {b : Byte} (h : decode x.port x.word = some (.crcByte b)) :
    crcBytesIn [x] = [b] := by
  simp [crcBytesIn, h]

theorem crcBytesIn_of_other {x : Input} (h : ∀ b, decode x.port x.word ≠ some (.crcByte b)) :
    crcBytesIn [x] = [] := by
  unfold crcBytesIn
  rw [List.filterMap_cons_none, List.filterMap_nil]
  split
  · exact absurd ‹_› (h _)
  · rfl

/-! ## The accumulator over a step and over a run -/

theorem exec_inputs {i : Instr} {s t : State} (h : exec i s = .next t) : t.inputs = s.inputs := by
  obtain ⟨-, -, -, -, -, -, -, -, -, -, -, -, -, -, hin⟩ := onlyTheirInstructionsWriteTheState i s t h
  exact hin

theorem exec_crc_of_other {i : Instr} {s t : State} (h : exec i s = .next t) (hinit : i ≠ .crcInit)
    (hreset : i ≠ .reset) (hbyte : ∀ b, i ≠ .crcByte b) : t.crc = s.crc := by
  obtain ⟨hcrc, -⟩ := onlyTheirInstructionsWriteTheState i s t h
  by_contra hne
  rcases hcrc hne with hi | ⟨b, hi⟩ | hi
  · exact hinit hi
  · exact hbyte b hi
  · exact hreset hi

/-- A step takes the next input, and unless that is `CRC_INIT` or `RESET` the accumulator goes on with the byte that the
input carries, if it carries one. -/
theorem step_crc {s t : State} {x : Input} {rest : List Input} (h : step s = .next t) (hin : s.inputs = x :: rest)
    (hinit : decode x.port x.word ≠ some .crcInit) (hreset : decode x.port x.word ≠ some .reset) :
    t.inputs = rest ∧ t.crc = crcFrom s.crc (crcBytesIn [x]) := by
  rcases step_cases h with ⟨hnil, _⟩ | ⟨y, ys, hy, hstep⟩
  · exact absurd (hnil.symm.trans hin) nofun
  obtain ⟨rfl, rfl⟩ := List.cons.inj (hin.symm.trans hy)
  rcases hstep with ⟨i, hd, hi⟩ | ⟨hd, _, rfl⟩ | ⟨hd, _, rfl⟩
  · refine ⟨exec_inputs hi, ?_⟩
    by_cases hb : ∃ b, i = .crcByte b
    · obtain ⟨b, rfl⟩ := hb
      cases hi
      rw [crcBytesIn_of_crcByte hd]
      rfl
    · have hother : ∀ b, i ≠ .crcByte b := fun b hib => hb ⟨b, hib⟩
      rw [crcBytesIn_of_other fun b hx => hother b (Option.some.inj (hd.symm.trans hx))]
      exact exec_crc_of_other (s := { s with inputs := rest }) hi (fun hii => hinit (hii ▸ hd))
        (fun hir => hreset (hir ▸ hd)) hother
  · exact ⟨rfl, by rw [crcBytesIn_of_other (by simp [hd])]; rfl⟩
  · exact ⟨rfl, by rw [crcBytesIn_of_other (by simp [hd])]; rfl⟩

theorem runSteps_crc {s : State} {xs rest : List Input} (hs : CodecInv s) (hin : s.inputs = xs ++ rest)
    (hxs : ∀ x ∈ xs, decode x.port x.word ≠ some .crcInit ∧ decode x.port x.word ≠ some .reset) :
    ∃ t, runSteps xs.length s = .next t ∧ t.crc = crcFrom s.crc (crcBytesIn xs) ∧ t.inputs = rest := by
  induction xs generalizing s with
  | nil => exact ⟨s, rfl, rfl, hin⟩
  | cons x xs ih =>
    obtain ⟨⟨hinit, hreset⟩, hrest⟩ := List.forall_mem_cons.1 hxs
    obtain ⟨u, hu⟩ := invariantStatesNeverStop s hs
    obtain ⟨huin, hucrc⟩ := step_crc hu hin hinit hreset
    obtain ⟨t, ht, htcrc, htin⟩ := ih (stepKeepsTheInvariants s u hs hu) huin hrest
    refine ⟨t, (runSteps_of_step _ hu).trans ht, ?_, htin⟩
    rw [crcBytesIn_cons, crcFrom_append, ← hucrc, htcrc]

/-- Settles O16: `CRC_INIT` starts the accumulator at the initial value, and the run goes on from there. -/
theorem crcUnitIsUndisturbed : Obligations.CrcUnitIsUndisturbed := by
  intro s xs rest hs hin hxs
  have hinit := step_of_decode_eq_some hin (decode_toInput .crcInit)
  obtain ⟨t, ht, hcrc, hrest⟩ := runSteps_crc (stepKeepsTheInvariants s _ hs hinit) rfl hxs
  exact ⟨t, (runSteps_of_step _ hinit).trans ht, hcrc, hrest⟩

end Sys2Proof.Machine
end

section
/-! The encoder's commands (41_tx_encoder.md R122-R131; O17, O18, O19, O20, O21, O22): six commands begin with the test of
the lock, and the two buffer reads with the test of the address. -/

namespace Sys2Proof.Machine

/-! ## The lock -/

/-- A command that begins with the test of the lock, while locked. -/
theorem ite_txLocked_of_locked {s : State} (h : Expect.locked s) (x : Result) :
    (if txLocked s then raise .ebusy s else x) = .next (Expect.answered .ebusy 0#16 s) :=
  if_pos ((txLocked_eq_true s).2 h)

/-- The same while not locked: it goes on. -/
theorem ite_txLocked_of_unlocked {s : State} (h : ¬ Expect.locked s) (x : Result) :
    (if txLocked s then raise .ebusy s else x) = x :=
  if_neg fun hl => h ((txLocked_eq_true s).1 hl)

/-! ## The buffer reads -/

theorem execTxbRd_of_le {a : Half} (h : Config.maxLen ≤ a.toNat) (s : State) :
    execTxbRd a s = .next (Expect.answered .eaddr 0#16 s) := if_pos h

theorem execTxbRd_of_lt {a : Half} (h : a.toNat < Config.maxLen) (s : State) :
    execTxbRd a s = .next (Expect.answered .ok (zext16 (Memory.read .txbuf s.txbuf a.toNat)) s) := by
  rw [execTxbRd, addrOf, if_neg (Nat.not_le_of_lt h), memRead_of_lt _ _ _ h]
  rfl

theorem execRxbRd_of_le {a : Half} (h : Config.maxLen ≤ a.toNat) (s : State) :
    execRxbRd a s = .next (Expect.answered .eaddr 0#16 s) := if_pos h

theorem execRxbRd_of_lt {a : Half} (h : a.toNat < Config.maxLen) (s : State) :
    execRxbRd a s = .next (Expect.answered .ok (zext16 (Memory.read .rxbuf s.rxbuf a.toNat)) s) := by
  rw [execRxbRd, addrOf, if_neg (Nat.not_le_of_lt h), memRead_of_lt _ _ _ h]
  rfl

/-- Settles O18: the address is inside the buffer or not, for each of the two. -/
theorem bufferReadsReturnTheByte : Obligations.BufferReadsReturnTheByte :=
  ⟨fun _ s => ⟨fun h => ⟨execTxbRd_of_le h s, execRxbRd_of_le h s⟩, fun h => ⟨execTxbRd_of_lt h s, execRxbRd_of_lt h s⟩⟩,
    hostWord_of_decodeHostFields fun _ _ => rfl, hostWord_of_decodeHostFields fun _ _ => rfl⟩

/-! ## The six commands that the lock refuses -/

/-- Settles O22: the six begin with the test of the lock; of the five reads `TXB_RD` answers `OK` or `EADDR`, the others
`OK`. -/
theorem lockRefusesTheSixCommands : Obligations.LockRefusesTheSixCommands := by
  constructor
  · rintro s h i (⟨a, b, rfl⟩ | ⟨b, rfl⟩ | ⟨v, rfl⟩ | ⟨v, rfl⟩ | rfl | rfl) <;> exact ite_txLocked_of_locked h _
  · rintro s i (⟨a, rfl⟩ | rfl | rfl | rfl | rfl)
    · rcases Nat.lt_or_ge a.toNat Config.maxLen with h | h
      · exact ⟨_, _, execTxbRd_of_lt h s, nofun⟩
      · exact ⟨_, _, execTxbRd_of_le h s, nofun⟩
    all_goals exact ⟨_, _, rfl, nofun⟩

/-- Settles O17: the lock is tested first, then the address, and the store changes what one address reads as. -/
theorem txbWrStoresOneByte : Obligations.TxbWrStoresOneByte := by
  refine ⟨fun a b s => ⟨fun h => ite_txLocked_of_locked h _, fun h ha => ?_, fun h ha => ?_⟩,
    hostWord_of_decodeHostFields fun _ _ => rfl⟩
  · exact (ite_txLocked_of_unlocked h _).trans (if_pos ha)
  · refine ⟨Memory.write .txbuf s.txbuf a.toNat b, (ite_txLocked_of_unlocked h _).trans ?_,
      Memory.read_write_same _ _ _ _, fun k hk => Memory.read_write_other _ _ _ _ _ hk⟩
    rw [addrOf, if_neg (Nat.not_le_of_lt ha), memWrite_txbuf_of_lt _ _ _ ha]
    rfl

/-- Settles O19: after the lock, `TX_SETLEN` tests the length and the other two test nothing. -/
theorem txSettersWriteTheirRegister : Obligations.TxSettersWriteTheirRegister := by
  refine ⟨fun s => ⟨fun h => ⟨fun _ => ite_txLocked_of_locked h _, fun _ =>
      ⟨ite_txLocked_of_locked h _, ite_txLocked_of_locked h _⟩⟩, fun h => ⟨fun _ => ite_txLocked_of_unlocked h _,
      fun _ => ite_txLocked_of_unlocked h _, fun v hv => ?_, fun v hv => ?_⟩⟩,
    hostWord_of_decodeHostFields fun _ _ => rfl, hostWord_of_decodeHostFields fun _ _ => rfl,
    hostWord_of_decodeHostFields fun _ _ => rfl⟩
  · exact (ite_txLocked_of_unlocked h _).trans (if_neg (Nat.not_lt_of_le hv))
  · exact (ite_txLocked_of_unlocked h _).trans (if_pos hv)

/-- Settles O20: each command answers its register without a test. -/
theorem txGettersReturnTheirRegister : Obligations.TxGettersReturnTheirRegister :=
  ⟨fun _ => ⟨rfl, rfl, rfl⟩, hostWord_of_decodeHostFields fun _ _ => rfl, hostWord_of_decodeHostFields fun _ _ => rfl,
    hostWord_of_decodeHostFields fun _ _ => rfl⟩

theorem txStatWord_of_busy {s : State} (h : s.tx_busy = true) : txStatWord s = 0x0003#16 := by
  rw [txStatWord, txLocked, h, Bool.true_or]
  rfl

theorem execTxStart_of_unlocked {s : State} (h : ¬ Expect.locked s) :
    execTxStart s = .next (Expect.answered .ok 0#16 (startEncoder s)) := ite_txLocked_of_unlocked h _

/-- Settles O21: after the lock nothing is tested, and a busy encoder is also locked. -/
theorem txStartStartsTheEncoder : Obligations.TxStartStartsTheEncoder := by
  refine ⟨fun s => ⟨fun h => ite_txLocked_of_locked h _, fun h => ⟨execTxStart_of_unlocked h, fun t ht => ?_⟩⟩,
    hostWord_of_decodeHostFields fun _ _ => rfl⟩
  have hbusy : t.tx_busy = true := by cases (execTxStart_of_unlocked h).symm.trans ht; rfl
  rw [← txStatWord_of_busy hbusy]
  rfl

end Sys2Proof.Machine
end

section
/-! The bytes that the encoder offers, its CRC over them, and a frame sent to its end (41_tx_encoder.md R121, R132, R135;
O24, O25, O27, O28). -/

namespace Sys2Proof.Machine

/-! ## The byte offered at each index -/

theorem frameByte_after_header {p : Nat} (h : 5 < p) (s : State) :
    frameByte p s =
      if p ≤ 5 + s.tx_len.toNat then memRead .txbuf (p - 6) s
      else if p = 6 + s.tx_len.toNat then .ok (hiByte s.tx_crc)
      else if p = 7 + s.tx_len.toNat then .ok (loByte s.tx_crc)
      else .error .txPosOutOfFrame := by
  have hn : ∀ k ≤ 5, p ≠ k := fun k hk => (Nat.lt_of_le_of_lt hk h).ne'
  rw [frameByte, if_neg (hn 0 (by decide)), if_neg (hn 1 (by decide)), if_neg (hn 2 (by decide)),
    if_neg (hn 3 (by decide)), if_neg (hn 4 (by decide)), if_neg (hn 5 (by decide))]

theorem frameByte_payload {s : State} (hl : s.tx_len.toNat ≤ Config.maxLen) {p : Nat} (h : 5 < p)
    (hp : p ≤ 5 + s.tx_len.toNat) : frameByte p s = .ok (Memory.read .txbuf s.txbuf (p - 6)) := by
  rw [frameByte_after_header h, if_pos hp]
  exact memRead_of_lt _ _ _ (by omega)

theorem frameByte_crc_hi (s : State) : frameByte (6 + s.tx_len.toNat) s = .ok (hiByte s.tx_crc) := by
  rw [frameByte_after_header (by omega), if_neg (by omega), if_pos rfl]

theorem frameByte_crc_lo (s : State) : frameByte (7 + s.tx_len.toNat) s = .ok (loByte s.tx_crc) := by
  rw [frameByte_after_header (by omega), if_neg (by omega), if_neg (by omega), if_pos rfl]

/-! ## The bytes that the encoder's CRC covers -/

@[simp] theorem length_bufPrefix (n : BufName) (m : Memory) (len : Nat) : (bufPrefix n m len).length = len := by
  simp [bufPrefix]

@[simp] theorem length_txPayload (s : State) : (txPayload s).length = s.tx_len.toNat := length_bufPrefix _ _ _

theorem length_txCovered (s : State) : (txCovered s).length = 5 + s.tx_len.toNat := by simp [txCovered]

theorem txCovered_eq (s : State) : txCovered s = frameHeader s.tx_cmd s.tx_seq s.tx_len ++ txPayload s := by
  simp [txCovered, frameCovered]

/-- The bytes that the CRC covers are those offered at the indices from 1 to `5 + tx_len`. -/
theorem getElem?_txCovered {s : State} (hl : s.tx_len.toNat ≤ Config.maxLen) {i : Nat} (hi : i < 5 + s.tx_len.toNat)
    {b : Byte} (hb : frameByte (i + 1) s = .ok b) : (txCovered s)[i]? = some b := by
  rw [txCovered_eq]
  match i with
  | 0 | 1 | 2 | 3 | 4 => cases hb; rfl
  | i + 5 =>
    rw [frameByte_payload hl (by omega) (by omega)] at hb
    cases hb
    have hlt : i < s.tx_len.toNat := by omega
    simp [frameHeader, txPayload, bufPrefix, hlt]

/-- From the first CRC byte on, `tx_crc` is the whole CRC. -/
theorem TxCrcTracks.tx_crc_of_lt {s : State} (h : TxCrcTracks s) (hb : s.tx_busy = true)
    (hp : 5 + s.tx_len.toNat < s.tx_pos) : s.tx_crc = crc16 (txCovered s) := by
  rw [h hb, List.take_of_length_le (by rw [length_txCovered]; omega)]

/-- Settles O24: the header's bytes are read off, the others are those after the header. -/
theorem frameByteByIndex : Obligations.FrameByteByIndex := fun s hl =>
  ⟨rfl, rfl, rfl, rfl, rfl, rfl, fun _ h hp => frameByte_payload hl h hp, frameByte_crc_hi s, frameByte_crc_lo s,
    fun ht hb hp => ht.tx_crc_of_lt hb (by omega)⟩

/-! ## The encoder's CRC over a step -/

theorem txCrcTracks_ignoresPorts : IgnoresPorts TxCrcTracks := fun _ _ _ _ h => h

theorem TxCrcTracks.of_idle {s : State} (h : s.tx_busy = false) : TxCrcTracks s :=
  fun hb => absurd (h.symm.trans hb) nofun

/-- A take: the byte taken enters the CRC exactly if it is the next of the covered bytes. -/
theorem TxCrcTracks.tx_crc_of_take {s : State} {b : Byte} (h : TxCrcTracks s) (hl : s.tx_len.toNat ≤ Config.maxLen)
    (hb : s.tx_busy = true) (ho : frameByte s.tx_pos s = .ok b) :
    (if 1 ≤ s.tx_pos ∧ s.tx_pos ≤ 5 + s.tx_len.toNat then crcStep s.tx_crc b else s.tx_crc) =
      crc16 ((txCovered s).take s.tx_pos) := by
  rw [h hb]
  cases hp : s.tx_pos with
  | zero => rfl
  | succ i =>
    rw [hp] at ho
    rw [Nat.add_sub_cancel]
    split_ifs with hc
    · rw [List.take_add_one, getElem?_txCovered hl (by omega) ho, Option.toList_some, crc16_append_singleton]
    · have hlen := length_txCovered s
      rw [List.take_of_length_le (by omega), List.take_of_length_le (by omega)]

theorem Change.txCrcTracks {s u : State} {i : Instr} (c : Change s i u) (hi : CodecInv s) (h : TxCrcTracks s) :
    TxCrcTracks u := by
  cases c with
  | keep | crcInit | crcByte | rxFlush | giveUp => exact h
  | reset | xactCancel => exact .of_idle rfl
  | txbWr _ _ unlocked | txSetcmd _ unlocked | txSetseq _ unlocked | txSetlen _ unlocked =>
    exact .of_idle ((txLocked_eq_false s).1 unlocked).1
  | txStart | xactStart | retry => exact fun _ => rfl
  | rxByte b v received =>
    simpa [TxCrcTracks, txCovered, txPayload, controllerHook_frame, rxByte_frame received] using h
  | take b busy offered =>
    rw [txAdvance_txCrcAfter]
    by_cases hlast : s.tx_pos = 7 + s.tx_len.toNat
    · exact .of_idle (if_pos hlast)
    · intro _
      simp only [if_neg hlast, Nat.add_sub_cancel]
      exact h.tx_crc_of_take hi.tx_len_le busy offered

/-- Settles O27, by the step induction for the two invariants together: O55's bounds the length of the frame. -/
theorem txCrcTracksTheEmittedBytes : Obligations.TxCrcTracksTheEmittedBytes := fun _ _ hi ht h =>
  (step_preserves (P := fun s => CodecInv s ∧ TxCrcTracks s)
    (fun s ins r e hs => ⟨codecInv_ignoresPorts s ins r e hs.1, txCrcTracks_ignoresPorts s ins r e hs.2⟩)
    (fun c hs => ⟨c.codecInv hs.1, c.txCrcTracks hs.1 hs.2⟩) h ⟨hi, ht⟩).2

/-! ## A take -/

theorem execEvTxTake_of_idle {s : State} (h : s.tx_busy = false) : execEvTxTake s = .next (quiet s) :=
  if_neg (by simp [h])

theorem execEvTxTake_of_busy {s : State} (h : s.tx_busy = true) {b : Byte} (ho : frameByte s.tx_pos s = .ok b) :
    execEvTxTake s = .next (emit b (txAdvance (txCrcAfter b s))) := by
  rw [execEvTxTake, if_pos h, ho]

theorem eventWord_of_decodeEventFields {op : Byte} {f : Byte → Instr} (h : ∀ d, decodeEventFields op d = some (f d)) :
    Expect.eventWord op f := by
  intro w hw
  rw [← hw] at h
  exact h _

/-- Settles O25: within the ranges there is a byte to offer, and the state after it is one record. -/
theorem takeEmitsTheOfferedByte : Obligations.TakeEmitsTheOfferedByte := by
  refine ⟨⟨fun s h => execEvTxTake_of_idle h, fun s hb hl hp => ?_⟩, eventWord_of_decodeEventFields fun _ => rfl⟩
  obtain ⟨b, ho⟩ := frameByte_isOk hl hp
  refine ⟨b, ho, (execEvTxTake_of_busy hb ho).trans ?_⟩
  rw [txAdvance_txCrcAfter, hb]
  rfl

/-! ## A run of takes -/

/-- While `tx_crc` tracks the bytes sent, the byte that the encoder offers is the next of the frame to send. -/
theorem TxCrcTracks.getElem?_requestFrame {s : State} (h : TxCrcTracks s) (hl : s.tx_len.toNat ≤ Config.maxLen)
    (hb : s.tx_busy = true) (hp : s.tx_pos ≤ 7 + s.tx_len.toNat) {b : Byte} (ho : frameByte s.tx_pos s = .ok b) :
    (requestFrame s)[s.tx_pos]? = some b := by
  have hcrc := getElem?_frame_crc s.tx_cmd s.tx_seq (txPayload s)
  rw [length_txPayload] at hcrc
  by_cases hcov : s.tx_pos ≤ 5 + s.tx_len.toNat
  · cases hpos : s.tx_pos with
    | zero => rw [hpos] at ho; cases ho; rfl
    | succ i =>
      rw [hpos] at ho
      rw [requestFrame, frame, List.getElem?_cons_succ, List.getElem?_append_left (by simp; omega)]
      exact getElem?_txCovered hl (by omega) ho
  · have hwhole := h.tx_crc_of_lt hb (by omega)
    by_cases hhi : s.tx_pos = 6 + s.tx_len.toNat
    · rw [hhi, frameByte_crc_hi, hwhole] at ho
      cases ho
      rw [hhi]
      exact hcrc 0
    · have hlo : s.tx_pos = 7 + s.tx_len.toNat := by omega
      rw [hlo, frameByte_crc_lo, hwhole] at ho
      cases ho
      rw [hlo, show 7 + s.tx_len.toNat = 6 + s.tx_len.toNat + 1 by omega]
      exact hcrc 1

theorem TxCrcTracks.drop_requestFrame {s : State} (h : TxCrcTracks s) (hl : s.tx_len.toNat ≤ Config.maxLen)
    (hb : s.tx_busy = true) (hp : s.tx_pos ≤ 7 + s.tx_len.toNat) {b : Byte} (ho : frameByte s.tx_pos s = .ok b) :
    (requestFrame s).drop s.tx_pos = b :: (requestFrame s).drop (s.tx_pos + 1) := by
  obtain ⟨hlt, hget⟩ := List.getElem?_eq_some_iff.1 (h.getElem?_requestFrame hl hb hp ho)
  rw [List.drop_eq_getElem_cons hlt, hget]

/-- A take of a byte that is not the last changes the position and at most the CRC. -/
theorem txAdvance_txCrcAfter_of_ne {s : State} (h : s.tx_pos ≠ 7 + s.tx_len.toNat) (b : Byte) :
    ∃ c, txAdvance (txCrcAfter b s) = { s with tx_crc := c, tx_pos := s.tx_pos + 1 } := by
  rw [txAdvance_txCrcAfter]
  exact ⟨_, by simp only [h, if_false, false_and]; rfl⟩

/-- The state `s` after the last byte of its frame is taken, with `ins` still to come (R135, 43_transaction.md R188). -/
def frameSent (s : State) (ins : List Input) : State :=
  { s with
    tx_busy := false
    tx_pos := 0
    tx_crc := crc16 (txCovered s)
    xact_state := if s.xact_state = .send then .wait else s.xact_state
    inputs := ins
    response := none
    emitted := some (loByte (crc16 (txCovered s))) }

/-- A take of the last byte, the low byte of the whole CRC. -/
theorem emit_txAdvance_of_last {s : State} (h : s.tx_pos = 7 + s.tx_len.toNat) (hc : s.tx_crc = crc16 (txCovered s)) :
    emit (loByte s.tx_crc) (txAdvance (txCrcAfter (loByte s.tx_crc) s)) = frameSent s s.inputs := by
  rw [txAdvance_txCrcAfter]
  simp [h, emit, frameSent, hc]

theorem step_takeInputs {s : State} {n : Nat} {rest : List Input} (hb : s.tx_busy = true)
    (hin : s.inputs = takeInputs (n + 1) ++ rest) {b : Byte} (ho : frameByte s.tx_pos s = .ok b) :
    step s = .next (emit b (txAdvance (txCrcAfter b { s with inputs := takeInputs n ++ rest }))) :=
  (step_of_decode_eq_some hin (decode_toInput .evTxTake)).trans
    (execEvTxTake_of_busy (s := { s with inputs := takeInputs n ++ rest }) hb ho)

/-- From any byte of the frame on, as many takes as there are bytes left put exactly those on the line, and the last one
ends the frame. -/
theorem lineBytes_and_runSteps_of_takes {n : Nat} {s : State} {rest : List Input} (hi : CodecInv s) (ht : TxCrcTracks s)
    (hb : s.tx_busy = true) (hn : s.tx_pos + n = 7 + s.tx_len.toNat) (hin : s.inputs = takeInputs (n + 1) ++ rest) :
    lineBytes (n + 1) s = (requestFrame s).drop s.tx_pos ∧ runSteps (n + 1) s = .next (frameSent s rest) := by
  have hp : s.tx_pos ≤ 7 + s.tx_len.toNat := by omega
  induction n generalizing s with
  | zero =>
    have hlast : s.tx_pos = 7 + s.tx_len.toNat := hn
    have hcrc := ht.tx_crc_of_lt hb (by omega)
    have ho : frameByte s.tx_pos s = .ok (loByte s.tx_crc) := by rw [hlast, frameByte_crc_lo]
    have hstep : step s = .next (frameSent s rest) := (step_takeInputs hb hin ho).trans <|
      congrArg _ (emit_txAdvance_of_last (s := { s with inputs := rest }) hlast hcrc)
    have hend : (requestFrame s).drop (s.tx_pos + 1) = [] := List.drop_of_length_le (by simp [requestFrame]; omega)
    rw [lineBytes_of_step 0 hstep, runSteps_of_step 0 hstep, ht.drop_requestFrame hi.tx_len_le hb hp ho, hend, hcrc]
    exact ⟨rfl, rfl⟩
  | succ n ih =>
    obtain ⟨b, ho⟩ := frameByte_isOk hi.tx_len_le (hi.tx_pos_le hb)
    have hstep := step_takeInputs hb hin ho
    obtain ⟨c, hc⟩ := txAdvance_txCrcAfter_of_ne (s := { s with inputs := takeInputs (n + 1) ++ rest })
      (show s.tx_pos ≠ 7 + s.tx_len.toNat by omega) b
    rw [hc] at hstep
    have hn' : s.tx_pos + 1 + n = 7 + s.tx_len.toNat := by omega
    obtain ⟨hline, hrun⟩ := ih (stepKeepsTheInvariants s _ hi hstep) (txCrcTracksTheEmittedBytes s _ hi ht hstep) hb hn'
      rfl (show s.tx_pos + 1 ≤ 7 + s.tx_len.toNat by omega)
    rw [lineBytes_of_step _ hstep, runSteps_of_step _ hstep, hline, hrun, ht.drop_requestFrame hi.tx_len_le hb hp ho]
    exact ⟨rfl, rfl⟩

/-- Settles O28: `TX_START` gives out no byte, and the takes that follow send the frame it starts from its first byte on. -/
theorem txStartSendsTheWholeFrame : Obligations.TxStartSendsTheWholeFrame := by
  intro s rest hi hl hin
  have hstart := (step_of_decode_eq_some hin (decode_toInput .txStart)).trans
    (execTxStart_of_unlocked (s := { s with inputs := takeInputs (s.tx_len.toNat + 8) ++ rest }) hl)
  obtain ⟨hline, hrun⟩ := lineBytes_and_runSteps_of_takes (n := s.tx_len.toNat + 7) (rest := rest)
    (stepKeepsTheInvariants s _ hi hstart) (fun _ => rfl) rfl ((Nat.zero_add _).trans (Nat.add_comm _ _)) rfl
  have hsend : s.xact_state ≠ .send := fun hs => hl (.inr (.inl hs))
  exact ⟨(lineBytes_of_step _ hstart).trans hline, _, (runSteps_of_step _ hstart).trans hrun, rfl, rfl, rfl,
    if_neg hsend⟩

end Sys2Proof.Machine
end

section
/-! One received byte: the receive state machine's step, then the controller's hook (42_rx_decoder.md R153-R161,
43_transaction.md R192-R195; O29, O30, O31, O32, O33), and the decoder's commands (R163-R170; O34, O35). -/

namespace Sys2Proof.Machine

/-! ## The hook, for a frame that is not completed or that fails -/

theorem controllerHook_of_receiving {before : RxState} {s : State} (hs : s.rx_state.terminal = false) :
    controllerHook before s = s :=
  if_neg fun ⟨_, ht, _⟩ => Bool.false_ne_true (hs.symm.trans ht)

theorem controllerHook_of_not_active {before : RxState} {s : State} (ha : ¬ Expect.active s) :
    controllerHook before s = s :=
  if_neg fun ⟨_, _, ht⟩ => ha ((XactState.active_eq_true _).1 ht)

theorem controllerHook_of_ended {s t : State} (hs : Expect.ended s) : controllerHook s.rx_state t = t :=
  if_neg fun ⟨hb, _, _⟩ => Bool.false_ne_true (hb.symm.trans ((RxState.terminal_eq_true _).2 hs))

/-- In an active transaction a completed frame goes to the controller. -/
theorem controllerHook_of_active {before : RxState} {s : State} (hb : before.terminal = false)
    (hs : s.rx_state.terminal = true) (ha : Expect.active s) : controllerHook before s = frameCompleted s :=
  if_pos ⟨hb, hs, (XactState.active_eq_true _).2 ha⟩

/-! ## The RX line's event, from the receive state machine's step -/

theorem exec_evRxByte_of_hook {s t u : State} {b : Byte} (h : rxByte b s = .ok t)
    (hu : controllerHook s.rx_state t = u) : exec (.evRxByte b) s = .next (Expect.silent u) := by
  simp only [exec, execEvRxByte, h, hu]
  rfl

/-- A byte that does not complete a frame. -/
theorem exec_evRxByte_of_receiving {s t : State} {b : Byte} (h : rxByte b s = .ok t)
    (ht : t.rx_state.terminal = false) : exec (.evRxByte b) s = .next (Expect.silent t) :=
  exec_evRxByte_of_hook h (controllerHook_of_receiving ht)

/-- A byte outside a transaction. -/
theorem exec_evRxByte_of_not_active {s t : State} {b : Byte} (h : rxByte b s = .ok t) (ha : ¬ Expect.active s) :
    exec (.evRxByte b) s = .next (Expect.silent t) :=
  exec_evRxByte_of_hook h (controllerHook_of_not_active (by simpa [Expect.active, rxByte_frame h] using ha))

/-- A byte that completes a frame in an active transaction. -/
theorem exec_evRxByte_of_active {s t : State} {b : Byte} (h : rxByte b s = .ok t) (hs : s.rx_state.terminal = false)
    (ht : t.rx_state.terminal = true) (ha : Expect.active t) :
    exec (.evRxByte b) s = .next (Expect.silent (frameCompleted t)) :=
  exec_evRxByte_of_hook h (controllerHook_of_active hs ht ha)

/-! ## `HUNT` and the terminal states -/

theorem rxByte_of_hunt {s : State} (hs : s.rx_state = .hunt) (b : Byte) : rxByte b s = .ok (rxHunt b s) := by
  simp only [rxByte, hs]

theorem rxByte_of_ended {s : State} (hs : Expect.ended s) (b : Byte) : rxByte b s = .ok { s with rx_ovr := true } := by
  rcases hs with hs | hs | hs <;> simp only [rxByte, hs]

/-- In `HUNT` a byte other than SOF is discarded (R154). -/
theorem exec_evRxByte_of_noise {s : State} (hs : s.rx_state = .hunt) {b : Byte} (hb : b ≠ sof) :
    exec (.evRxByte b) s = .next (Expect.silent s) :=
  exec_evRxByte_of_receiving ((rxByte_of_hunt hs b).trans (congrArg _ (if_neg hb))) (by rw [hs]; rfl)

/-- Settles O29: SOF is the one byte that `HUNT` does not discard, and neither completes a frame. -/
theorem huntDiscardsUntilSof : Obligations.HuntDiscardsUntilSof := fun _ hs =>
  ⟨fun _ hb => exec_evRxByte_of_noise hs hb, exec_evRxByte_of_receiving (rxByte_of_hunt hs sof) rfl⟩

/-- Settles O33: no frame is completed, because the decoder was in a terminal state before. -/
theorem terminalDecoderDropsBytes : Obligations.TerminalDecoderDropsBytes := fun _ b hs =>
  exec_evRxByte_of_hook (rxByte_of_ended hs b) (controllerHook_of_ended hs)

/-! ## `HEADER` -/

theorem rxByte_of_header {s : State} (hs : s.rx_state = .header) (b : Byte) : rxByte b s = rxHeader b s := by
  simp only [rxByte, hs]

theorem rxCheckLen_of_le {s : State} (hl : s.rx_len.toNat ≤ Config.maxLen) :
    rxCheckLen s = { s with rx_state := .body, rx_pos := 0 } := if_neg (Nat.not_lt_of_le hl)

theorem rxCheckLen_of_lt {s : State} (hl : Config.maxLen < s.rx_len.toNat) :
    rxCheckLen s = { s with rx_state := .lenErr, rx_pos := 0 } := if_pos hl

/-- The fifth header byte completes the length, which is then checked (R156, R158). -/
theorem rxByte_of_len_lo {s : State} (hs : s.rx_state = .header) (hp : s.rx_pos = 4) (b : Byte) :
    rxByte b s =
      .ok (rxCheckLen { s with rx_crc_calc := crcStep s.rx_crc_calc b, rx_len := setLo s.rx_len b }) := by
  simp only [rxByte_of_header hs, rxHeader, hp]

theorem rxByte_of_long_len {s : State} (hs : s.rx_state = .header) (hp : s.rx_pos = 4) {b : Byte}
    (hl : Config.maxLen < (setLo s.rx_len b).toNat) :
    rxByte b s = .ok { s with rx_crc_calc := crcStep s.rx_crc_calc b, rx_len := setLo s.rx_len b, rx_state := .lenErr,
                              rx_pos := 0 } :=
  (rxByte_of_len_lo hs hp b).trans (congrArg _ (rxCheckLen_of_lt hl))

/-- Settles O30, by the position: the first four bytes stay in `HEADER`, and only the fifth can complete a frame. -/
theorem headerBytesFillTheRegisters : Obligations.HeaderBytesFillTheRegisters := by
  intro s b hs
  have hterm : s.rx_state.terminal = false := by rw [hs]; rfl
  refine ⟨fun hp => ?cmd, fun hp => ?seqHi, fun hp => ?seqLo, fun hp => ?lenHi, fun hp n hn => ?lenLo⟩
  case cmd | seqHi | seqLo | lenHi =>
    refine exec_evRxByte_of_receiving ?_ hterm
    simp only [rxByte_of_header hs, rxHeader, hp, setHi, setLo, hiByte, loByte]
  case lenLo =>
    subst hn
    refine ⟨fun hl => exec_evRxByte_of_receiving ?_ rfl,
      fun hl ha => exec_evRxByte_of_not_active (rxByte_of_long_len hs hp hl) ha,
      fun hl ha => exec_evRxByte_of_active (rxByte_of_long_len hs hp hl) hterm rfl ha⟩
    exact (rxByte_of_len_lo hs hp b).trans (congrArg _ (rxCheckLen_of_le hl))

/-! ## `BODY` -/

theorem rxByte_of_body {s : State} (hs : s.rx_state = .body) (b : Byte) : rxByte b s = rxBody b s := by
  simp only [rxByte, hs]

theorem rxByte_of_payload {s : State} (hs : s.rx_state = .body) (hl : s.rx_len.toNat ≤ Config.maxLen)
    (hp : s.rx_pos < s.rx_len.toNat) (b : Byte) :
    rxByte b s = .ok { s with rxbuf := Memory.write .rxbuf s.rxbuf s.rx_pos b, rx_crc_calc := crcStep s.rx_crc_calc b,
                              rx_pos := s.rx_pos + 1 } := by
  rw [rxByte_of_body hs, rxBody, if_pos hp, rxPayload, memWrite_rxbuf_of_lt _ _ _ (Nat.lt_of_lt_of_le hp hl)]

theorem rxByte_of_crc_hi {s : State} (hs : s.rx_state = .body) (hp : s.rx_pos = s.rx_len.toNat) (b : Byte) :
    rxByte b s = .ok (rxCrcHi b s) := by
  rw [rxByte_of_body hs, rxBody, if_neg hp.not_lt, if_pos hp]

theorem rxByte_of_crc_lo {s : State} (hs : s.rx_state = .body) (hp : s.rx_pos = s.rx_len.toNat + 1) (b : Byte) :
    rxByte b s = .ok (rxCrcLo b s) := by
  rw [rxByte_of_body hs, rxBody, if_neg (by omega), if_neg (by omega), if_pos hp]

/-- Settles O31: neither byte completes a frame, and the store changes what one address reads as. -/
theorem bodyBytesFillTheBuffer : Obligations.BodyBytesFillTheBuffer := by
  intro s b hs hl
  have hterm : s.rx_state.terminal = false := by rw [hs]; rfl
  exact ⟨fun hp => ⟨_, exec_evRxByte_of_receiving (rxByte_of_payload hs hl hp b) hterm,
      Memory.read_write_same _ _ _ _, fun k hk => Memory.read_write_other _ _ _ _ _ hk⟩,
    fun hp => exec_evRxByte_of_receiving (rxByte_of_crc_hi hs hp b) hterm⟩

/-- The low CRC byte, when the CRC that the frame carried is the running one (R160). -/
theorem rxByte_of_good_crc {s : State} (hs : s.rx_state = .body) (hp : s.rx_pos = s.rx_len.toNat + 1) {b : Byte}
    (hc : setLo s.rx_crc_rcv b = s.rx_crc_calc) :
    rxByte b s = .ok { s with rx_crc_rcv := setLo s.rx_crc_rcv b, rx_pos := 0, rx_state := .valid } := by
  rw [rxByte_of_crc_lo hs hp, rxCrcLo, if_pos hc]

/-- The same when it is not. -/
theorem rxByte_of_bad_crc {s : State} (hs : s.rx_state = .body) (hp : s.rx_pos = s.rx_len.toNat + 1) {b : Byte}
    (hc : setLo s.rx_crc_rcv b ≠ s.rx_crc_calc) :
    rxByte b s = .ok { s with rx_crc_rcv := setLo s.rx_crc_rcv b, rx_pos := 0, rx_state := .crcErr } := by
  rw [rxByte_of_crc_lo hs hp, rxCrcLo, if_neg hc]

/-- Settles O32: the comparison of the CRCs fixes the state in which the controller's hook sees the frame. -/
theorem lastByteDecidesTheFrame : Obligations.LastByteDecidesTheFrame := by
  intro s b hs hp c hc
  subst hc
  have hterm : s.rx_state.terminal = false := by rw [hs]; rfl
  refine ⟨fun hc ha => exec_evRxByte_of_not_active (rxByte_of_good_crc hs hp hc) ha,
    fun hc ha => exec_evRxByte_of_not_active (rxByte_of_bad_crc hs hp hc) ha,
    fun hc ha hcmd => exec_evRxByte_of_hook (rxByte_of_good_crc hs hp hc) ?response,
    fun hc ha hcmd => exec_evRxByte_of_hook (rxByte_of_good_crc hs hp hc) ?nak,
    fun hc ha => exec_evRxByte_of_active (rxByte_of_bad_crc hs hp hc) hterm rfl ha⟩
  case response => exact controllerHook_of_response hterm rfl ((XactState.active_eq_true _).2 ha) hcmd
  case nak => exact controllerHook_of_nak hterm rfl ((XactState.active_eq_true _).2 ha) hcmd

/-! ## The commands -/

/-- Settles O34: the one test is whether a transaction is active. -/
theorem rxFlushResetsTheDecoder : Obligations.RxFlushResetsTheDecoder :=
  ⟨fun _ => ⟨fun ha => if_pos ((XactState.active_eq_true _).2 ha),
      fun ha => if_neg fun ht => ha ((XactState.active_eq_true _).1 ht)⟩,
    hostWord_of_decodeHostFields fun _ _ => rfl⟩

/-- Settles O35: each command answers its register without a test. -/
theorem rxGettersReturnTheirRegister : Obligations.RxGettersReturnTheirRegister :=
  ⟨fun _ => ⟨rfl, rfl, rfl, rfl, rfl⟩, hostWord_of_decodeHostFields fun _ _ => rfl,
    hostWord_of_decodeHostFields fun _ _ => rfl, hostWord_of_decodeHostFields fun _ _ => rfl,
    hostWord_of_decodeHostFields fun _ _ => rfl, hostWord_of_decodeHostFields fun _ _ => rfl⟩

end Sys2Proof.Machine
end

section
/-! Noise and then a frame, outside a transaction: which frames the decoder accepts (42_rx_decoder.md R171; O37). -/

namespace Sys2Proof.Machine

/-- In `HUNT` bytes without SOF change nothing; what they give out is cleared by the first of them, if there is one. -/
theorem runSteps_noise {s : State} {noise : List Byte} {rest : List Input} (hs : s.rx_state = .hunt) (hn : sof ∉ noise)
    (hin : s.inputs = rxInputs noise ++ rest) :
    ∃ r e, runSteps noise.length s = .next { s with inputs := rest, response := r, emitted := e } := by
  induction noise generalizing s with
  | nil =>
    cases (hin : s.inputs = rest)
    exact ⟨_, _, rfl⟩
  | cons b noise ih =>
    have hstep := (step_rxInputs hin).trans
      (exec_evRxByte_of_noise (s := { s with inputs := rxInputs noise ++ rest }) hs
        (List.ne_of_not_mem_cons hn).symm)
    obtain ⟨r, e, hrun⟩ := ih (s := Expect.silent { s with inputs := rxInputs noise ++ rest }) hs
      (List.not_mem_of_not_mem_cons hn) rfl
    exact ⟨r, e, (runSteps_of_step _ hstep).trans hrun⟩

theorem receives_long_len {s : State} (ha : ¬ Expect.active s) {r : Reception} (hs : r.st = .header) (hp : r.pos = 4)
    {b : Byte} (hl : Config.maxLen < (setLo r.len b).toNat) :
    Receives s r b { r with crc := crcStep r.crc b, len := setLo r.len b, st := .lenErr, pos := 0 } :=
  fun ins => exec_evRxByte_of_not_active (s := inFrame s r ins) (rxByte_of_long_len hs hp hl) ha

/-- Outside a transaction a header that announces too much leads to `LENERR` (R158). -/
theorem receivesAll_long_header {s : State} (ha : ¬ Expect.active s) (cmd : Byte) (seq : Half) {len : Half} (buf : Memory)
    (hl : Config.maxLen < len.toNat) :
    ReceivesAll s (.start buf) (frameHeader cmd seq len)
      ⟨.lenErr, 0, cmd, seq, len, 0#16, crc16 (frameHeader cmd seq len), buf⟩ := by
  have hlen : Config.maxLen < (setLo (setHi 0#16 (hiByte len)) (loByte len)).toNat := by
    rwa [setLo_setHi_bytes]
  have h := ReceivesAll.cons (receives_cmd s (r := .start buf) rfl rfl cmd) <|
    .cons (receives_seq_hi s rfl rfl (hiByte seq)) <| .cons (receives_seq_lo s rfl rfl (loByte seq)) <|
    .cons (receives_len_hi s rfl rfl (hiByte len)) <| .cons (receives_long_len ha rfl rfl hlen) <| .nil s _
  simpa only [Reception.start, setLo_setHi_bytes, crc16, crcFrom, frameHeader, List.foldl_cons, List.foldl_nil] using h

/-- The run over a header that announces too much, from SOF on. -/
theorem runSteps_long_header {s : State} {cmd : Byte} {seq len : Half} {rest : List Input} (hs : s.rx_state = .hunt)
    (ha : ¬ Expect.active s) (hl : Config.maxLen < len.toNat)
    (hin : s.inputs = rxInputs (sof :: frameHeader cmd seq len) ++ rest) :
    runSteps 6 s = .next
      (inFrame s ⟨.lenErr, 0, cmd, seq, len, 0#16, crc16 (frameHeader cmd seq len), s.rxbuf⟩ rest) := by
  have hsof := (step_rxInputs hin).trans (exec_sof hs _)
  exact (runSteps_of_step 5 hsof).trans (receivesAll_long_header ha cmd seq s.rxbuf hl rest)

/-- The run over a whole frame with any CRC bytes, outside a transaction. -/
theorem runSteps_frame_of_not_active {s : State} {cmd : Byte} {seq : Half} {payload : List Byte} {hi lo : Byte}
    {rest : List Input} (hs : s.rx_state = .hunt) (ha : ¬ Expect.active s) (hl : payload.length ≤ Config.maxLen)
    (hin : s.inputs = rxInputs (sof :: (frameCovered cmd seq payload ++ [hi, lo])) ++ rest) :
    ∃ buf, bufPrefix .rxbuf buf payload.length = payload ∧
      runSteps (8 + payload.length) s = .next (inFrame s (.ended cmd seq payload hi lo buf) rest) := by
  obtain ⟨buf, hbuf, hrun⟩ := runSteps_frame hs hl hin
  rw [controllerHook_of_not_active (s := inFrame s _ _) ha] at hrun
  exact ⟨buf, hbuf, hrun⟩

/-- Settles O37: the noise leaves the decoder in `HUNT`; from there the frame is received whole, or its header alone. -/
theorem decoderAcceptsExactlyTheValidFrames : Obligations.DecoderAcceptsExactlyTheValidFrames := by
  constructor
  · intro s noise cmd seq payload hi lo rest hs ha hn hl hin
    rw [rxInputs_append, List.append_assoc] at hin
    obtain ⟨r, e, hnoise⟩ := runSteps_noise hs hn hin
    obtain ⟨buf, hbuf, hrun⟩ := runSteps_frame_of_not_active
      (s := { s with inputs := _, response := r, emitted := e }) hs ha hl rfl
    rw [Nat.add_assoc]
    exact ⟨_, (runSteps_add _ hnoise).trans hrun, rfl, rfl, rfl, toNat_ofNat_length hl, rfl,
      fun i hi => read_of_bufPrefix hbuf hi, fun hc => if_pos hc, fun hc => if_neg hc⟩
  · intro s noise cmd seq len rest hs ha hn hl hin
    rw [rxInputs_append, List.append_assoc] at hin
    obtain ⟨r, e, hnoise⟩ := runSteps_noise hs hn hin
    have hrun := runSteps_long_header (cmd := cmd) (seq := seq) (rest := rest)
      (s := { s with inputs := _, response := r, emitted := e }) hs ha hl rfl
    exact ⟨_, (runSteps_add _ hnoise).trans hrun, rfl, rfl, rfl, rfl, rfl, rfl⟩

end Sys2Proof.Machine
end

section
/-! The controller's commands and the window timer's event, read forwards (43_transaction.md R185-R191; O39, O40, O41). -/

namespace Sys2Proof.Machine

theorem execXactStart_of_unlocked {s : State} (h : ¬ Expect.locked s) :
    execXactStart s = .next (Expect.answered .ok 0#16 (beginTransaction s)) := ite_txLocked_of_unlocked h _

theorem rxStatWord_of_flushed {s : State} (hs : s.rx_state = .hunt) (ho : s.rx_ovr = false) : rxStatWord s = 0#16 := by
  rw [rxStatWord, hs, ho]
  rfl

theorem xactStatWord_of_first_attempt {s : State} (hx : s.xact_state = .send) (ha : s.xact_attempts = 1#3) :
    xactStatWord s = 0x0011#16 := by
  rw [xactStatWord, hx, ha]
  rfl

/-- Settles O39: after the lock nothing is tested, and the three status words are those of the state written. -/
theorem xactStartBeginsTheTransaction : Obligations.XactStartBeginsTheTransaction := by
  refine ⟨fun s => ⟨fun h => ite_txLocked_of_locked h _, fun h => ⟨execXactStart_of_unlocked h, fun t ht => ?_⟩⟩,
    hostWord_of_decodeHostFields fun _ _ => rfl⟩
  have hwords : xactStatWord t = 0x0011#16 ∧ txStatWord t = 0x0003#16 ∧ rxStatWord t = 0#16 := by
    cases (execXactStart_of_unlocked h).symm.trans ht
    exact ⟨xactStatWord_of_first_attempt rfl rfl, txStatWord_of_busy rfl, rxStatWord_of_flushed rfl rfl⟩
  obtain ⟨hxact, htx, hrx⟩ := hwords
  exact ⟨congrArg (respond .ok · t) hxact, congrArg (respond .ok · t) htx, congrArg (respond .ok · t) hrx⟩

/-- Settles O40: the one test is whether a transaction is active. -/
theorem xactCancelEndsTheTransaction : Obligations.XactCancelEndsTheTransaction :=
  ⟨fun _ => ⟨fun ha => if_pos ((XactState.active_eq_true _).2 ha),
      fun ha => if_neg fun ht => ha ((XactState.active_eq_true _).1 ht)⟩,
    hostWord_of_decodeHostFields fun _ _ => rfl⟩

/-- Before the fourth attempt an expired window leads to a retransmission (R190). -/
theorem execEvWindowExpire_of_retry {s : State} (hw : s.xact_state = .wait) (hl : s.xact_attempts.toNat < 4) :
    execEvWindowExpire s = .next (quiet (retransmit s)) := by
  rw [execEvWindowExpire, if_pos hw, if_pos ((attempts_lt_max _).2 hl)]

/-- After the fourth attempt it ends the transaction (R191). -/
theorem execEvWindowExpire_of_giveUp {s : State} (hw : s.xact_state = .wait) (hl : 4 ≤ s.xact_attempts.toNat) :
    execEvWindowExpire s = .next (quiet { s with xact_state := .retryFail }) := by
  rw [execEvWindowExpire, if_pos hw, if_neg fun h => Nat.not_lt_of_le hl ((attempts_lt_max _).1 h)]

/-- One attempt more is a count that still fits in three bits. -/
theorem toNat_retransmit_attempts {s : State} (hl : s.xact_attempts.toNat < 4) :
    (retransmit s).xact_attempts.toNat = s.xact_attempts.toNat + 1 := by
  show (s.xact_attempts + 1#3).toNat = _
  bv_omega

/-- Settles O41: whether a window is open is tested first, then whether an attempt is left. -/
theorem windowExpiryRetriesOrFails : Obligations.WindowExpiryRetriesOrFails := by
  refine ⟨fun s => ⟨fun hw => if_neg hw, fun hw hl => ?_, fun hw h4 => execEvWindowExpire_of_giveUp hw h4.ge⟩,
    eventWord_of_decodeEventFields fun _ => rfl⟩
  rw [← toNat_retransmit_attempts hl, BitVec.ofNat_toNat, BitVec.setWidth_eq]
  exact execEvWindowExpire_of_retry hw hl

end Sys2Proof.Machine
end

section
/-! What can change the controller's state, the attempt count and the idle encoder, by the change an instruction makes
(43_transaction.md R181, R197, R199; O42, O43, O44). -/

namespace Sys2Proof.Machine

/-- The hook changes the controller's state only for a frame that this step completed in an active transaction, and then
the frame decides the new state (R192, R194, R195). -/
theorem controllerHook_of_xact_state_ne {before : RxState} {s : State}
    (h : (controllerHook before s).xact_state ≠ s.xact_state) :
    before.terminal = false ∧ Expect.active s ∧
      (((controllerHook before s).rx_state = .valid ∧ (controllerHook before s).rx_cmd ≠ nakCmd ∧
          (controllerHook before s).xact_state = .ok) ∨
        ((controllerHook before s).rx_state = .crcErr ∧ (controllerHook before s).xact_state = .crcFail) ∨
        ((controllerHook before s).rx_state = .lenErr ∧ (controllerHook before s).xact_state = .lenFail)) := by
  rcases controllerHook_cases before s with
    he | ⟨hb, ha, ⟨_, _, he⟩ | ⟨hs, hc, he⟩ | ⟨hs, he⟩ | ⟨hs, he⟩⟩ <;> rw [he] at h ⊢
  · exact absurd rfl h
  · exact absurd rfl h
  · exact ⟨hb, (XactState.active_eq_true _).1 ha, .inl ⟨hs, hc, rfl⟩⟩
  · exact ⟨hb, (XactState.active_eq_true _).1 ha, .inr (.inl ⟨hs, rfl⟩)⟩
  · exact ⟨hb, (XactState.active_eq_true _).1 ha, .inr (.inr ⟨hs, rfl⟩)⟩

/-- A take changes the controller's state only with the last byte of a transaction's frame (R188). -/
theorem txAdvance_txCrcAfter_of_xact_state_ne {s : State} {b : Byte}
    (h : (txAdvance (txCrcAfter b s)).xact_state ≠ s.xact_state) :
    s.xact_state = .send ∧ s.tx_pos = 7 + s.tx_len.toNat ∧ (txAdvance (txCrcAfter b s)).xact_state = .wait ∧
      (txAdvance (txCrcAfter b s)).tx_busy = false ∧ (txAdvance (txCrcAfter b s)).tx_pos = 0 := by
  rw [txAdvance_txCrcAfter] at h ⊢
  by_cases hlast : s.tx_pos = 7 + s.tx_len.toNat ∧ s.xact_state = .send
  · exact ⟨hlast.2, hlast.1, if_pos hlast, if_pos hlast.1, if_pos hlast.1⟩
  · exact absurd (if_neg hlast) h

/-- Settles O42: each change that can write `xact_state` is a row, and the dropped NAK is one case of the last byte of a
frame (O32). -/
theorem xactTransitionsAreTheTable : Obligations.XactTransitionsAreTheTable := by
  refine ⟨fun i s t h hne => ?table, fun b s ha hs hp hcmd hc => ?nak⟩
  case table =>
    obtain ⟨u, r, e, c, rfl⟩ := answers_of_exec h
    cases c with
    | keep | crcInit | crcByte | txbWr | txSetcmd | txSetseq | txSetlen | txStart | rxFlush => exact absurd rfl hne
    | xactStart unlocked =>
      obtain ⟨hidle, hsend, hwait⟩ := (txLocked_eq_false s).1 unlocked
      exact .inl ⟨rfl, fun ha => ha.elim hsend hwait, hidle, rfl, rfl, rfl, rfl, rfl, rfl, rfl, rfl⟩
    | take b busy =>
      obtain ⟨hsend, hlast, hafter⟩ := txAdvance_txCrcAfter_of_xact_state_ne hne
      exact .inr <| .inl ⟨rfl, hsend, busy, hlast, hafter⟩
    | retry waiting left =>
      exact .inr <| .inr <| .inl
        ⟨rfl, waiting, left, rfl, toNat_retransmit_attempts left, rfl, rfl, rfl, rfl, rfl, rfl⟩
    | giveUp waiting spent =>
      have hfour (hi : CodecInv s) : s.xact_attempts = 4#3 :=
        BitVec.eq_of_toNat_eq (Nat.le_antisymm (hi.attempts_range (.inr waiting)).2 spent)
      exact .inr <| .inr <| .inr <| .inl ⟨rfl, waiting, spent, hfour, rfl⟩
    | rxByte b v received =>
      have hframe : v.xact_state = s.xact_state := by simp [rxByte_frame received]
      obtain ⟨hbefore, hactive, hafter⟩ :=
        controllerHook_of_xact_state_ne (before := s.rx_state) (s := v) (hframe ▸ hne)
      have hended : ¬ Expect.ended s := fun he =>
        Bool.false_ne_true (hbefore.symm.trans ((RxState.terminal_eq_true _).2 he))
      rw [Expect.active, hframe] at hactive
      exact .inr <| .inr <| .inr <| .inr <| .inl ⟨⟨b, rfl⟩, hactive, hended, hafter⟩
    | xactCancel active =>
      exact .inr <| .inr <| .inr <| .inr <| .inr <| .inl
        ⟨rfl, (XactState.active_eq_true _).1 active, rfl, rfl, rfl, rfl, rfl⟩
    | reset =>
      exact .inr <| .inr <| .inr <| .inr <| .inr <| .inr
        ⟨rfl, rfl, rfl, rfl, rfl, rfl, rfl, rfl, rfl, rfl, rfl, rfl, rfl, rfl, rfl, rfl, rfl, rfl⟩
  case nak =>
    obtain ⟨-, -, -, hnak, -⟩ := lastByteDecidesTheFrame s b hs hp _ rfl
    exact ⟨_, hnak hc ha hcmd, rfl, rfl, rfl, rfl⟩

/-- Only a retry, `XACT_START` and `RESET` write the attempt count. -/
theorem Change.attempts_eq_or {s u : State} {i : Instr} (c : Change s i u) :
    u.xact_attempts = s.xact_attempts ∨
      (i = .evWindowExpire ∧ s.xact_state = .wait ∧ s.xact_attempts.toNat < 4 ∧
        u.xact_attempts.toNat = s.xact_attempts.toNat + 1) ∨
      (i = .xactStart ∧ u.xact_attempts = 1#3) ∨ (i = .reset ∧ u.xact_attempts = 0#3) := by
  cases c with
  | keep | crcInit | crcByte | txbWr | txSetcmd | txSetseq | txSetlen | txStart | rxFlush | xactCancel | giveUp =>
    exact .inl rfl
  | rxByte b v received => exact .inl (by simp [controllerHook_frame, rxByte_frame received])
  | take => exact .inl (by rw [txAdvance_txCrcAfter])
  | retry waiting left => exact .inr (.inl ⟨rfl, waiting, left, toNat_retransmit_attempts left⟩)
  | xactStart => exact .inr (.inr (.inl ⟨rfl, rfl⟩))
  | reset => exact .inr (.inr (.inr ⟨rfl, rfl⟩))

/-- Only `TX_START`, `XACT_START` and a retry make an idle encoder busy. -/
theorem Change.starts_encoder {s u : State} {i : Instr} (c : Change s i u) (hidle : s.tx_busy = false)
    (hbusy : u.tx_busy = true) :
    i = .txStart ∨ i = .xactStart ∨
      (i = .evWindowExpire ∧ u.xact_attempts.toNat = s.xact_attempts.toNat + 1) := by
  cases c with
  | keep | crcInit | crcByte | txbWr | txSetcmd | txSetseq | txSetlen | rxFlush | giveUp =>
    exact absurd (hidle.symm.trans hbusy) nofun
  | rxByte b v received => simp [controllerHook_frame, rxByte_frame received, hidle] at hbusy
  | take b busy => exact absurd (hidle.symm.trans busy) nofun
  | reset | xactCancel => cases hbusy
  | txStart => exact .inl rfl
  | xactStart => exact .inr (.inl rfl)
  | retry _ left => exact .inr (.inr ⟨rfl, toNat_retransmit_attempts left⟩)

/-- Settles O44, by the change the instruction makes. -/
theorem retriesOnlyOnWindowExpiry : Obligations.RetriesOnlyOnWindowExpiry := by
  intro i s t h
  obtain ⟨u, r, e, c, rfl⟩ := answers_of_exec h
  exact ⟨c.attempts_eq_or.resolve_left, c.starts_encoder⟩

/-- Settles O43: in a terminal state the rows of O42 and the causes of O44 leave `XACT_START` and `RESET` alone. -/
theorem terminalTransactionsHold : Obligations.TerminalTransactionsHold := by
  intro i s t h hterm hstart hreset
  have hsend : s.xact_state ≠ .send := fun hs => by simp [hs] at hterm
  have hwait : s.xact_state ≠ .wait := fun hs => by simp [hs] at hterm
  have hactive : ¬ Expect.active s := fun ha => ha.elim hsend hwait
  constructor
  · by_contra hne
    rcases xactTransitionsAreTheTable.1 i s t h hne with
      ⟨hi, _⟩ | ⟨_, hs, _⟩ | ⟨_, hw, _⟩ | ⟨_, hw, _⟩ | ⟨_, ha, _⟩ | ⟨_, ha, _⟩ | ⟨hi, _⟩
    · exact hstart hi
    · exact hsend hs
    · exact hwait hw
    · exact hwait hw
    · exact hactive ha
    · exact hactive ha
    · exact hreset hi
  · by_contra hne
    rcases (retriesOnlyOnWindowExpiry i s t h).1 hne with ⟨_, hw, _⟩ | ⟨hi, _⟩ | ⟨hi, _⟩
    · exact hwait hw
    · exact hstart hi
    · exact hreset hi

end Sys2Proof.Machine
end

section
/-! A transaction that is never answered: attempt after attempt, each the whole frame and an expired window, until
`RETRYFAIL` (43_transaction.md R180, R181, R188-R191; O46). -/

namespace Sys2Proof.Machine

/-- The encoder is at the first byte of an attempt of a transaction. -/
structure AttemptStarts (s : State) : Prop where
  inv : CodecInv s
  sending : s.xact_state = .send
  first_byte : s.tx_pos = 0
  crc_clear : s.tx_crc = 0x0000#16

/-- The inputs of `n` attempts at a frame with a payload of `len` bytes: all its takes, then the window expires. -/
def unansweredAttempts (len n : Nat) : List Input :=
  (List.replicate n (takeInputs (len + 8) ++ [Instr.evWindowExpire.toInput])).flatten

theorem unansweredAttempts_succ (len n : Nat) (rest : List Input) :
    unansweredAttempts len (n + 1) ++ rest =
      takeInputs (len + 8) ++ Instr.evWindowExpire.toInput :: (unansweredAttempts len n ++ rest) := by
  simp [unansweredAttempts, List.replicate_succ]

/-- An attempt begins, the first one or a retry, whatever stands on the ports (R185, R190). -/
theorem CodecInv.attemptStarts {s : State} (h : CodecInv s) {n : BitVec 3} (hn : 1 ≤ n.toNat ∧ n.toNat ≤ 4)
    (ins : List Input) (r : Option Response) (e : Option Byte) :
    AttemptStarts
      { Machine.flushDecoder (Machine.startEncoder { s with xact_state := .send, xact_attempts := n }) with
        inputs := ins, response := r, emitted := e } where
  inv := codecInv_ignoresPorts _ ins r e (h.startAttempt hn).flushDecoder
  sending := rfl
  first_byte := rfl
  crc_clear := rfl

theorem AttemptStarts.txCrcTracks {s : State} (h : AttemptStarts s) : TxCrcTracks s := fun _ => by
  rw [h.first_byte, h.crc_clear]
  rfl

/-- The takes of an attempt put its whole frame on the line and open the window (R188). -/
theorem AttemptStarts.sends_frame {s : State} {rest : List Input} (h : AttemptStarts s)
    (hin : s.inputs = takeInputs (s.tx_len.toNat + 8) ++ rest) :
    lineBytes (s.tx_len.toNat + 8) s = requestFrame s ∧
      runSteps (s.tx_len.toNat + 8) s = .next (frameSent s rest) := by
  have hframe := lineBytes_and_runSteps_of_takes (n := s.tx_len.toNat + 7) h.inv h.txCrcTracks
    (h.inv.send_busy h.sending) (by rw [h.first_byte]; omega) hin
  rwa [h.first_byte] at hframe

/-- After the frame the window expires, which gives out no byte. -/
theorem AttemptStarts.run_to_expiry {s u : State} {rest : List Input} (h : AttemptStarts s)
    (hin : s.inputs = takeInputs (s.tx_len.toNat + 8) ++ Instr.evWindowExpire.toInput :: rest)
    (hu : execEvWindowExpire (frameSent s rest) = .next (quiet u)) :
    lineBytes (s.tx_len.toNat + 9) s = requestFrame s ∧ runSteps (s.tx_len.toNat + 9) s = .next (quiet u) := by
  obtain ⟨hline, hrun⟩ := h.sends_frame hin
  have hexpire : step (frameSent s (Instr.evWindowExpire.toInput :: rest)) = .next (quiet u) :=
    (step_of_decode_eq_some rfl (decode_toInput .evWindowExpire)).trans hu
  constructor
  · rw [lineBytes_add 1 hrun, hline, lineBytes_of_step 0 hexpire]
    exact List.append_nil _
  · rw [runSteps_add 1 hrun, runSteps_of_step 0 hexpire, runSteps_zero]

theorem AttemptStarts.frameSent_waits {s : State} (h : AttemptStarts s) (ins : List Input) :
    (frameSent s ins).xact_state = .wait := if_pos h.sending

/-- From an attempt on, with `n` more left, the line carries the frame once for each, and the last expiry fails the
transaction. -/
theorem AttemptStarts.run_to_retryFail {n : Nat} {s : State} {rest : List Input} (h : AttemptStarts s)
    (hn : s.xact_attempts.toNat + n = 4) (hin : s.inputs = unansweredAttempts s.tx_len.toNat (n + 1) ++ rest) :
    lineBytes ((n + 1) * (s.tx_len.toNat + 9)) s = (List.replicate (n + 1) (requestFrame s)).flatten ∧
      ∃ t, runSteps ((n + 1) * (s.tx_len.toNat + 9)) s = .next t ∧ t.xact_state = .retryFail ∧
        t.xact_attempts = 4#3 ∧ t.tx_busy = false ∧ t.inputs = rest := by
  induction n generalizing s with
  | zero =>
    have hfour : s.xact_attempts.toNat = 4 := hn
    rw [unansweredAttempts_succ] at hin
    obtain ⟨hline, hrun⟩ := h.run_to_expiry hin (execEvWindowExpire_of_giveUp (h.frameSent_waits rest) hfour.ge)
    rw [Nat.zero_add, Nat.one_mul]
    exact ⟨by simp [hline], _, hrun, rfl, BitVec.eq_of_toNat_eq hfour, rfl, rfl⟩
  | succ n ih =>
    have hleft : s.xact_attempts.toNat < 4 := by omega
    rw [unansweredAttempts_succ] at hin
    obtain ⟨hline, hrun⟩ := h.run_to_expiry hin (execEvWindowExpire_of_retry (h.frameSent_waits _) hleft)
    have hcount := toNat_retransmit_attempts hleft
    have hnext : AttemptStarts (quiet (retransmit (frameSent s (unansweredAttempts s.tx_len.toNat (n + 1) ++ rest)))) :=
      h.inv.attemptStarts (n := (retransmit s).xact_attempts) (by omega) _ none none
    obtain ⟨hlines, t, hruns, ht⟩ := ih hnext (by show (retransmit s).xact_attempts.toNat + n = 4; omega) rfl
    rw [Nat.succ_mul (n + 1), Nat.add_comm, lineBytes_add _ hrun, runSteps_add _ hrun, hline, List.replicate_succ,
      List.flatten_cons]
    exact ⟨congrArg _ hlines, t, hruns, ht⟩

/-- Settles O46: `XACT_START` gives out no byte and begins the first of four attempts. -/
theorem unansweredRequestIsSentFourTimes : Obligations.UnansweredRequestIsSentFourTimes := by
  intro s rest hi hl hin
  have hstart := (step_of_decode_eq_some hin (decode_toInput .xactStart)).trans
    (execXactStart_of_unlocked (s := { s with inputs := unansweredAttempts s.tx_len.toNat 4 ++ rest }) hl)
  have hfirst := hi.attemptStarts (n := 1#3) (by decide) (unansweredAttempts s.tx_len.toNat 4 ++ rest)
    (some ⟨.ok, 0#16⟩) none
  obtain ⟨hline, t, hrun, ht⟩ := hfirst.run_to_retryFail (n := 3) rfl rfl
  exact ⟨(lineBytes_of_step _ hstart).trans hline, t, (runSteps_of_step _ hstart).trans hrun, ht⟩

end Sys2Proof.Machine
end

section
/-! The control commands (44_control.md R210, R211; O9, O10): both are accepted without a test. -/

namespace Sys2Proof.Machine

theorem txStatWord_of_idle {s : State} (hb : s.tx_busy = false) (hx : s.xact_state = .idle) : txStatWord s = 0#16 := by
  rw [txStatWord, txLocked, hb, hx]
  rfl

theorem xactStatWord_of_idle {s : State} (hx : s.xact_state = .idle) (ha : s.xact_attempts = 0#3) :
    xactStatWord s = 0#16 := by
  rw [xactStatWord, hx, ha]
  rfl

/-- Settles O9: the state that `RESET` leaves is `resetRegisters`, in which the encoder and the controller are idle and
the decoder is flushed. -/
theorem resetCommandKeepsOnlyTheBuffers : Obligations.ResetCommandKeepsOnlyTheBuffers := by
  refine ⟨fun s => ?_, hostWord_of_decodeHostFields fun _ _ => rfl⟩
  let t := respondState .ok 0#16 (resetRegisters s)
  have htx : txStatWord t = 0#16 := txStatWord_of_idle rfl rfl
  have hrx : rxStatWord t = 0#16 := rxStatWord_of_flushed rfl rfl
  have hxact : xactStatWord t = 0#16 := xactStatWord_of_idle rfl rfl
  exact ⟨t, rfl, rfl, congrArg (respond .ok · t) htx, congrArg (respond .ok · t) hrx, congrArg (respond .ok · t) hxact⟩

/-- Settles O10: `NOP` is its answer and nothing else. -/
theorem nopChangesNothing : Obligations.NopChangesNothing :=
  ⟨fun _ => rfl, hostWord_of_decodeHostFields fun _ _ => rfl⟩

end Sys2Proof.Machine
end

section
/-! The result codes (60_exceptions.md R220, R225, R231; O49, O52): the code of each host command as a function of the
state, and the command that answers it and, with an error, changes nothing. -/

namespace Sys2Proof.Machine

/-! ## The code of each command -/

/-- The result code of a host command: the lock is tested before the address or the length (60_exceptions.md R231). An
event has none, and stands here with the commands that are never refused. -/
def resultCode (s : State) : Instr → ResultCode
  | .rxFlush => if s.xact_state.active then .ebusy else .ok
  | .txSetcmd _ | .txSetseq _ | .txStart | .xactStart => if txLocked s then .ebusy else .ok
  | .txbWr a _ => if txLocked s then .ebusy else if Config.maxLen ≤ a.toNat then .eaddr else .ok
  | .txSetlen v => if txLocked s then .ebusy else if Config.maxLen < v.toNat then .elen else .ok
  | .txbRd a | .rxbRd a => if Config.maxLen ≤ a.toNat then .eaddr else .ok
  | .nop | .reset | .crcInit | .crcByte _ | .crcRead | .txGetcmd | .txGetseq | .txGetlen | .txStat | .rxStat | .rxGetcmd
  | .rxGetseq | .rxGetlen | .rxGetcrc | .rxGetcalc | .xactStat | .xactCancel | .evRxByte _ | .evTxTake
  | .evWindowExpire => .ok

/-- The outcome `x`, from the state `s`, is a response with the code `rc`; an error has value 0 and comes with no other
change (60_exceptions.md R225). -/
def Completes (s : State) (rc : ResultCode) (x : Result) : Prop :=
  ∃ v u, x = respond rc v u ∧ (rc ≠ .ok → v = 0x0000#16 ∧ u = s)

theorem Completes.raise (rc : ResultCode) (s : State) : Completes s rc (Machine.raise rc s) :=
  ⟨_, _, rfl, fun _ => ⟨rfl, rfl⟩⟩

theorem Completes.ok (s : State) (v : Half) (u : State) : Completes s .ok (respond .ok v u) :=
  ⟨_, _, rfl, fun h => absurd rfl h⟩

/-- A command that a test refuses with `e`, and that goes on if the test fails. -/
theorem Completes.test {c : Prop} [Decidable c] {s : State} {e rc : ResultCode} {x : Result}
    (h : ¬ c → Completes s rc x) : Completes s (if c then e else rc) (if c then Machine.raise e s else x) := by
  split_ifs with hc
  · exact .raise e s
  · exact h hc

/-- Every host command completes with its code, in every state. -/
theorem exec_completes {i : Instr} (hi : i.port = .host) (s : State) : Completes s (resultCode s i) (exec i s) := by
  cases i with
  | rxFlush | txSetcmd | txSetseq | txStart | xactStart => exact .test fun _ => .ok _ _ _
  | txSetlen v => exact .test fun _ => .test fun _ => .ok _ _ _
  | txbWr a b =>
    refine .test fun _ => .test fun ha => ?_
    rw [memWrite_txbuf_of_lt (addrOf a) _ _ (Nat.lt_of_not_le ha)]
    exact .ok _ _ _
  | txbRd a | rxbRd a =>
    refine .test fun ha => ?_
    rw [memRead_of_lt _ (addrOf a) _ (Nat.lt_of_not_le ha)]
    exact .ok _ _ _
  | xactCancel =>
    show Completes s .ok (execXactCancel s)
    unfold execXactCancel
    split_ifs
    · exact .ok _ _ _
    · exact .ok _ _ _
  | nop | reset | crcInit | crcByte | crcRead | txGetcmd | txGetseq | txGetlen | txStat | rxStat | rxGetcmd | rxGetseq
  | rxGetlen | rxGetcrc | rxGetcalc | xactStat => exact .ok _ _ _
  | evRxByte | evTxTake | evWindowExpire => exact absurd hi nofun

/-- The next state of a host command: its response, and with an error nothing else that is new. -/
theorem exec_host_next {i : Instr} {s t : State} (h : exec i s = .next t) (hi : i.port = .host) :
    ∃ v u, t = respondState (resultCode s i) v u ∧ (resultCode s i ≠ .ok → v = 0x0000#16 ∧ u = s) := by
  obtain ⟨v, u, he, hu⟩ := exec_completes hi s
  cases h.symm.trans he
  exact ⟨v, u, rfl, hu⟩

/-- Settles O49: only a host command answers, and an undefined word is refused as a command is. -/
theorem refusedCommandsChangeNothing : Obligations.RefusedCommandsChangeNothing := by
  refine ⟨fun i s t r h hr hrc => ?_, fun _ _ _ h hd => step_of_decode_eq_none h hd⟩
  cases hp : i.port with
  | event =>
    have hnone := ((outputsFollowThePorts i s t h).2 hp).1
    exact absurd (hnone.symm.trans hr) nofun
  | host =>
    obtain ⟨v, u, rfl, hu⟩ := exec_host_next h hp
    cases hr
    obtain ⟨rfl, rfl⟩ := hu hrc
    rfl

/-! ## The causes of each code -/

theorem txLocked_iff (s : State) : txLocked s = true ↔ Expect.locked s := txLocked_eq_true s

theorem resultCode_ne_eopc (s : State) (i : Instr) : resultCode s i ≠ .eopc := by
  cases i with
  | rxFlush | txSetcmd | txSetseq | txStart | xactStart | txbWr | txSetlen | txbRd | rxbRd => simp [resultCode, ite_eq_iff]
  | _ => nofun

theorem resultCode_eq_ebusy_iff (s : State) (i : Instr) :
    resultCode s i = .ebusy ↔ (i = .rxFlush ∧ Expect.active s) ∨ (Expect.locked s ∧ ((∃ a b, i = .txbWr a b) ∨
      (∃ b, i = .txSetcmd b) ∨ (∃ v, i = .txSetseq v) ∨ (∃ v, i = .txSetlen v) ∨ i = .txStart ∨ i = .xactStart)) := by
  cases i with
  | rxFlush => simp [resultCode, ite_eq_iff, -ite_eq_left_iff, Expect.active]
  | txSetcmd | txSetseq | txStart | xactStart | txbWr | txSetlen =>
    simp [resultCode, ite_eq_iff, -ite_eq_left_iff, txLocked_iff]
  | txbRd | rxbRd => simp [resultCode, ite_eq_iff]
  | _ => simp [resultCode]

theorem resultCode_eq_eaddr_iff (s : State) (i : Instr) :
    resultCode s i = .eaddr ↔ ∃ a, Config.maxLen ≤ a.toNat ∧
      (((∃ b, i = .txbWr a b) ∧ ¬ Expect.locked s) ∨ i = .txbRd a ∨ i = .rxbRd a) := by
  cases i with
  | txbWr => simp [resultCode, ite_eq_iff, txLocked_iff, and_comm]
  | txbRd | rxbRd => simp [resultCode]
  | rxFlush | txSetcmd | txSetseq | txStart | xactStart | txSetlen => simp [resultCode, ite_eq_iff]
  | _ => simp [resultCode]

theorem resultCode_eq_elen_iff (s : State) (i : Instr) :
    resultCode s i = .elen ↔ ∃ v, i = .txSetlen v ∧ Config.maxLen < v.toNat ∧ ¬ Expect.locked s := by
  cases i with
  | txSetlen => simp [resultCode, ite_eq_iff, txLocked_iff, and_comm]
  | rxFlush | txSetcmd | txSetseq | txStart | xactStart | txbWr | txbRd | rxbRd => simp [resultCode, ite_eq_iff]
  | _ => simp [resultCode]

/-- Settles O52: the response carries the command's code, whose causes are those of each clause; the undefined host words
are O7's. -/
theorem resultCodesAndTheirCauses : Obligations.ResultCodesAndTheirCauses := by
  refine ⟨by decide, fun i s t h hi => ?_, undefinedWordsChangeNothing.1⟩
  obtain ⟨v, u, rfl, hu⟩ := exec_host_next h hi
  exact ⟨_, rfl, fun hrc => (hu hrc).1, resultCode_ne_eopc s i, resultCode_eq_ebusy_iff s i,
    resultCode_eq_eaddr_iff s i, resultCode_eq_elen_iff s i⟩

end Sys2Proof.Machine
end

section
/-! Two events pending at once: the block takes them in the order in which they stand (60_exceptions.md R233; O48). -/

namespace Sys2Proof.Machine

/-- A run over two instructions that are pending. -/
theorem runSteps_two {i j : Instr} {rest : List Input} {s u t : State}
    (hin : s.inputs = i.toInput :: j.toInput :: rest) (hi : exec i { s with inputs := j.toInput :: rest } = .next u)
    (hj : exec j { u with inputs := rest } = .next t) : runSteps 2 s = .next t := by
  have hfirst := (step_of_decode_eq_some hin (decode_toInput i)).trans hi
  have hsecond := (step_of_decode_eq_some (exec_inputs hi) (decode_toInput j)).trans hj
  rw [runSteps_of_step 1 hfirst, runSteps_of_step 0 hsecond, runSteps_zero]

/-- In `HUNT` a byte is read whatever the controller does, and starts a frame exactly when it is SOF (R154, R155). -/
theorem exec_evRxByte_of_hunt {s : State} (hs : s.rx_state = .hunt) (b : Byte) :
    ∃ t, exec (.evRxByte b) s = .next t ∧ t.rx_state = (if b = sof then .header else .hunt) ∧
      t.xact_state = s.xact_state ∧ t.xact_attempts = s.xact_attempts ∧ t.tx_busy = s.tx_busy ∧ t.inputs = s.inputs := by
  obtain ⟨hnoise, hsof⟩ := huntDiscardsUntilSof s hs
  by_cases hb : b = sof
  · subst hb
    exact ⟨_, hsof, (if_pos rfl).symm, rfl, rfl, rfl, rfl⟩
  · exact ⟨_, hnoise b hb, hs.trans (if_neg hb).symm, rfl, rfl, rfl, rfl⟩

/-- Settles O48: the byte first closes the window (O32), so that the expiry is ignored (O41); the expiry first restarts
the request with the decoder in `HUNT`, where the byte is read. -/
theorem byteAndExpiryOrderDecides : Obligations.ByteAndExpiryOrderDecides := by
  intro s b rest hw hl hs hp hc hcmd
  refine ⟨fun hin => ?byteFirst, fun hin => ?expiryFirst⟩
  case byteFirst =>
    obtain ⟨-, -, hresponse, -⟩ :=
      lastByteDecidesTheFrame { s with inputs := Instr.evWindowExpire.toInput :: rest } b hs hp _ rfl
    have hignored {u : State} (hu : u.xact_state ≠ .wait) : exec .evWindowExpire u = .next (Expect.silent u) :=
      (windowExpiryRetriesOrFails.1 u).1 hu
    exact ⟨_, runSteps_two hin (hresponse hc (.inr hw) hcmd) (hignored nofun), rfl, rfl, rfl, rfl, rfl⟩
  case expiryFirst =>
    have hexpire := execEvWindowExpire_of_retry (s := { s with inputs := (Instr.evRxByte b).toInput :: rest }) hw hl
    obtain ⟨t, hbyte, hrx, hxact, hattempts, hbusy, hins⟩ := exec_evRxByte_of_hunt
      (s := { quiet (retransmit { s with inputs := (Instr.evRxByte b).toInput :: rest }) with inputs := rest }) rfl b
    have hcount : t.xact_attempts.toNat = s.xact_attempts.toNat + 1 :=
      (congrArg BitVec.toNat hattempts).trans (toNat_retransmit_attempts hl)
    exact ⟨t, runSteps_two hin hexpire hbyte, hxact, hcount, hrx, hbusy, hins⟩

end Sys2Proof.Machine
end

section
/-! The state after power-on, and how long the decoder holds a frame (70_reset_and_hazards.md R250, R256; O8, O38). -/

namespace Sys2Proof.Machine

/-- Settles O8: the registers and the empty buffers are read off the record, the status words are O23's, and the state
meets the invariants whatever the inputs, so that none of them stops it (O54, O56). -/
theorem powerOnState : Obligations.PowerOnState := by
  obtain ⟨-, htx, hrx, hxact, -⟩ := statusWordLayouts
  obtain ⟨hinv, -⟩ := powerOnStateMeetsTheInvariants
  exact ⟨⟨rfl, rfl, rfl, rfl, rfl, rfl, rfl, rfl, rfl, rfl, rfl, rfl, rfl, rfl, rfl, rfl, rfl⟩,
    fun a => ⟨Memory.read_nil _ a, Memory.read_nil _ a⟩, htx, hrx, hxact,
    fun x rest => invariantStatesNeverStop _ (codecInv_ignoresPorts State.reset (x :: rest) none none hinv)⟩

/-- Settles O38, by the change the instruction makes: those that write the decoder are excluded, but for the received
byte, and in a terminal state that only sets the overrun flag. -/
theorem heldFrameIsStable : Obligations.HeldFrameIsStable := by
  intro i s t h hs hflush hstart hreset hcancel hretry
  obtain ⟨u, r, e, c, rfl⟩ := answers_of_exec h
  cases c with
  | keep | crcInit | crcByte | txbWr | txSetcmd | txSetseq | txSetlen | txStart | giveUp =>
    exact ⟨rfl, rfl, rfl, rfl, rfl, rfl, rfl, rfl⟩
  | take => rw [txAdvance_txCrcAfter]; exact ⟨rfl, rfl, rfl, rfl, rfl, rfl, rfl, rfl⟩
  | rxByte b v received =>
    cases (rxByte_of_ended hs b).symm.trans received
    rw [controllerHook_of_ended hs]
    exact ⟨rfl, rfl, rfl, rfl, rfl, rfl, rfl, rfl⟩
  | rxFlush => exact absurd rfl hflush
  | xactStart => exact absurd rfl hstart
  | reset => exact absurd rfl hreset
  | xactCancel active => exact absurd ⟨rfl, (XactState.active_eq_true _).1 active⟩ hcancel
  | retry waiting left => exact absurd ⟨rfl, waiting, left⟩ hretry

end Sys2Proof.Machine
end

section
/-! The ends of runs (70_reset_and_hazards.md R263; O58). What needs an argument is the stand-alone transmission: while
the encoder sends a frame outside a transaction, only `RESET` and `EV_TX_TAKE` matter to it, and each take brings it one
byte closer to its end. -/

namespace Sys2Proof.Machine

@[simp] theorem XactState.terminal_eq_true (x : XactState) :
    x.terminal = true ↔ x = .ok ∨ x = .crcFail ∨ x = .lenFail ∨ x = .retryFail ∨ x = .cancelled := by
  cases x <;> decide

theorem txStartNext_iff (s : State) :
    txStartNext s = true ↔
      (∃ x rest, s.inputs = x :: rest ∧ decode x.port x.word = some .txStart) ∧ ¬ Expect.locked s := by
  rw [← txLocked_iff]
  cases hin : s.inputs with
  | nil => simp [txStartNext, takeInput_of_inputs_nil hin]
  | cons x rest => simp [txStartNext, takeInput_of_inputs_cons hin]

theorem idleWithin_of_idle {s : State} (n : Nat) (h : s.tx_busy = false) : idleWithin n s = true :=
  idleWithin_iff.2 ⟨0, Nat.zero_le n, s, rfl, h⟩

/-- A step with an input runs its instruction, or leaves the registers and the buffers alone. -/
theorem step_cases_of_inputs_cons {s t : State} {x : Input} {rest : List Input} (h : step s = .next t)
    (hin : s.inputs = x :: rest) :
    (∃ i, decode x.port x.word = some i ∧ exec i { s with inputs := rest } = .next t) ∨
      ∃ r e, t = { s with inputs := rest, response := r, emitted := e } := by
  rcases step_cases h with ⟨hnil, _⟩ | ⟨y, ys, hy, hstep⟩
  · exact absurd (hnil.symm.trans hin) nofun
  obtain ⟨rfl, rfl⟩ := List.cons.inj (hin.symm.trans hy)
  rcases hstep with hexec | ⟨_, _, rfl⟩ | ⟨_, _, rfl⟩
  · exact .inl hexec
  · exact .inr ⟨_, _, rfl⟩
  · exact .inr ⟨_, _, rfl⟩

theorem step_inputs {s t : State} {x : Input} {rest : List Input} (h : step s = .next t) (hin : s.inputs = x :: rest) :
    t.inputs = rest := by
  rcases step_cases_of_inputs_cons h hin with ⟨i, _, hexec⟩ | ⟨_, _, rfl⟩
  · exact exec_inputs hexec
  · rfl

/-! ## The encoder at work outside a transaction -/

/-- The encoder sends a frame outside a transaction, and `n` more bytes follow the one it offers. -/
structure SendsAlone (n : Nat) (s : State) : Prop where
  busy : s.tx_busy = true
  not_active : ¬ Expect.active s
  position : s.tx_pos + n = 7 + s.tx_len.toNat

theorem sendsAlone_ignoresPorts (n : Nat) : IgnoresPorts (SendsAlone n) := fun _ _ _ _ h => { h with }

/-- A change by anything but `EV_TX_TAKE` and `RESET` leaves the transmission alone: with the encoder busy the
configuration is locked, and with no active transaction neither `XACT_CANCEL` nor an expiry acts. -/
theorem Change.sendsAlone {n : Nat} {s u : State} {i : Instr} (c : Change s i u) (h : SendsAlone n s)
    (htake : i ≠ .evTxTake) (hreset : i ≠ .reset) : SendsAlone n u := by
  have hidle : txLocked s ≠ false := fun hl => absurd (h.busy.symm.trans ((txLocked_eq_false s).1 hl).1) nofun
  cases c with
  | keep => exact h
  | crcInit | crcByte | rxFlush => exact { h with }
  | txbWr _ _ unlocked | txSetcmd _ unlocked | txSetseq _ unlocked | txSetlen _ unlocked | txStart unlocked
  | xactStart unlocked => exact absurd unlocked hidle
  | rxByte b v received =>
    obtain ⟨-, -, -, hlen, hbusy, hpos, -, hxact, -⟩ := rxByte_frame received
    have hactive : ¬ Expect.active v := by simpa only [Expect.active, hxact] using h.not_active
    rw [controllerHook_of_not_active hactive]
    exact ⟨hbusy.trans h.busy, hactive, by rw [hpos, hlen]; exact h.position⟩
  | xactCancel active => exact absurd ((XactState.active_eq_true _).1 active) h.not_active
  | retry waiting | giveUp waiting => exact absurd (.inr waiting) h.not_active
  | take => exact absurd rfl htake
  | reset => exact absurd rfl hreset

/-- The take of the last byte ends the transmission. -/
theorem SendsAlone.tx_busy_of_last_take {s t : State} (h : SendsAlone 0 s) (ht : exec .evTxTake s = .next t) :
    t.tx_busy = false := by
  rcases execEvTxTake_cases ht with ⟨hidle, rfl⟩ | ⟨_, b, _, rfl⟩
  · exact hidle
  · rw [emit_tx_busy, txAdvance_txCrcAfter]
    exact if_pos h.position

/-- Any other take leaves one byte less. -/
theorem SendsAlone.of_take {n : Nat} {s t : State} (h : SendsAlone (n + 1) s) (ht : exec .evTxTake s = .next t) :
    SendsAlone n t := by
  rcases execEvTxTake_cases ht with ⟨hidle, _⟩ | ⟨_, b, _, rfl⟩
  · exact absurd (h.busy.symm.trans hidle) nofun
  · have hpos := h.position
    obtain ⟨c, hc⟩ := txAdvance_txCrcAfter_of_ne (s := s) (by omega) b
    rw [hc]
    exact ⟨h.busy, h.not_active, show s.tx_pos + 1 + n = 7 + s.tx_len.toNat by omega⟩

/-- A step with an input that is neither a take nor a `RESET`. -/
theorem SendsAlone.step_of_other {n : Nat} {s t : State} {x : Input} {rest : List Input} (h : SendsAlone n s)
    (hs : step s = .next t) (hin : s.inputs = x :: rest) (htake : decode x.port x.word ≠ some .evTxTake)
    (hreset : decode x.port x.word ≠ some .reset) : SendsAlone n t := by
  rcases step_cases_of_inputs_cons hs hin with ⟨i, hd, hexec⟩ | ⟨r, e, rfl⟩
  · obtain ⟨u, r, e, c, rfl⟩ := answers_of_exec hexec
    have hu : SendsAlone n u := c.sendsAlone (sendsAlone_ignoresPorts n s rest s.response s.emitted h)
      (fun hi => htake (hi ▸ hd)) fun hi => hreset (hi ▸ hd)
    exact sendsAlone_ignoresPorts n u u.inputs r e hu
  · exact sendsAlone_ignoresPorts n s rest r e h

/-! ## The run after `TX_START` -/

/-- The input is an `EV_TX_TAKE`. -/
def isTake (x : Input) : Bool := decode x.port x.word = some .evTxTake

@[simp] theorem isTake_eq_true (x : Input) : isTake x = true ↔ decode x.port x.word = some .evTxTake :=
  decide_eq_true_iff

/-- Whatever inputs follow, the encoder is idle after them or before exactly when one of them is a `RESET` or there are
more takes among them than bytes follow the one offered. -/
theorem SendsAlone.idleWithin_iff {n : Nat} {s : State} {xs rest : List Input} (h : SendsAlone n s) (hi : CodecInv s)
    (hin : s.inputs = xs ++ rest) :
    idleWithin xs.length s = true ↔
      (∃ x ∈ xs, decode x.port x.word = some .reset) ∨ n < xs.countP isTake := by
  induction xs generalizing n s with
  | nil => simp [idleWithin, h.busy]
  | cons x xs ih =>
    obtain ⟨t, ht⟩ := invariantStatesNeverStop s hi
    have hrest {m : Nat} (hm : SendsAlone m t) := ih hm (stepKeepsTheInvariants s t hi ht) (step_inputs ht hin)
    rw [List.length_cons, idleWithin_of_step _ ht, h.busy, Bool.not_true, Bool.false_or]
    by_cases hreset : decode x.port x.word = some .reset
    · have hidle : t.tx_busy = false := by
        cases (step_of_decode_eq_some hin hreset).symm.trans ht
        rfl
      exact iff_of_true (idleWithin_of_idle _ hidle) (.inl ⟨x, List.mem_cons_self, hreset⟩)
    by_cases htake : decode x.port x.word = some .evTxTake
    · have hexec := (step_of_decode_eq_some hin htake).symm.trans ht
      have hports := sendsAlone_ignoresPorts n s (xs ++ rest) s.response s.emitted h
      rw [List.countP_cons_of_pos ((isTake_eq_true x).2 htake)]
      cases n with
      | zero => exact iff_of_true (idleWithin_of_idle _ (hports.tx_busy_of_last_take hexec)) (.inr (Nat.succ_pos _))
      | succ n => simp [hrest (hports.of_take hexec), hreset]
    · rw [List.countP_cons_of_neg (mt (isTake_eq_true x).1 htake)]
      simp [hrest (h.step_of_other ht hin htake hreset), hreset]

/-- Settles O58: the first three ends are the definitions read out, and after the `TX_START` the encoder sends alone, at
the first of its `tx_len + 8` bytes. -/
theorem endsOfRunsAreTheTerminalStates : Obligations.EndsOfRunsAreTheTerminalStates := by
  refine ⟨fun s => XactState.terminal_eq_true _, fun s => RxState.terminal_eq_true _, fun n s => ?_,
    fun s xs rest hi hl hin => ?_⟩
  · rw [transmissionEnded_iff, txStartNext_iff, and_assoc]
  · have hdecode := decode_toInput .txStart
    have hnext : txStartNext s = true := (txStartNext_iff s).2 ⟨⟨_, _, hin, hdecode⟩, hl⟩
    have hstart := (step_of_decode_eq_some hin hdecode).trans
      (execTxStart_of_unlocked (s := { s with inputs := xs ++ rest }) hl)
    have hsends : SendsAlone (s.tx_len.toNat + 7)
        (Expect.answered .ok 0#16 (startEncoder { s with inputs := xs ++ rest })) :=
      ⟨rfl, fun ha => hl (.inr ha), (Nat.zero_add _).trans (Nat.add_comm _ _)⟩
    rw [transmissionEnded_of_step _ hstart, hnext, Bool.true_and,
      hsends.idleWithin_iff (stepKeepsTheInvariants s _ hi hstart) rfl, List.countP_eq_length_filter]
    exact Iff.rfl

end Sys2Proof.Machine
end
